-- ==== Sys2Proof/Word.lean ====
section
/-! DEFINITION. The byte of the exchange memory, of the array and of the two serial lines. -/

namespace Sys2Proof

/-- One byte (00_scope.md, Conventions). -/
abbrev Byte := BitVec 8

end Sys2Proof
end

