-- ==== Sys2Proof/Syntax.lean ====
section
/-! DEFINITION. The commands of the block: one constructor per row of spec/opcode_table.json.
Every constructor's first operand is the instant of the event, in µs of the 1 µs free-running time base. -/

namespace Sys2Proof

/-- What happens on the port's pins in one piece of a transaction, after the command byte that the row names
(R166). A piece may leave chip select low, so that other events fall between two captures of one READ (R167). -/
structure Xfer where
  /-- Chip select falls first and the command byte is clocked. Otherwise the bytes go on with the transaction that is open. -/
  fall : Bool
  /-- The bytes the host clocks after the command byte, the address bytes among them. -/
  bytes : List Byte
  /-- Chip select rises at the end, this many clocks after the last whole byte, or it stays low. -/
  rise : Option (Fin 8)
  /-- Stamp addresses in the order in which their takes are taken first, where one commit changes several (R171). -/
  takes : List Nat
  deriving DecidableEq, Repr

/-- The blocks that react to an announced transition (R194). -/
inductive Block
  | spd | gau | ttu | tlr | dtu | sdu | nvs | psc
  deriving DecidableEq, Repr

/-- What the cells and the read-back of a program gave (R141): physical facts, given by the event. -/
structure Cells where
  /-- Per byte, the bits that stayed at 1 although the program meant to clear them. -/
  weak : List Byte
  /-- Per byte, the bits that the verify's read-back gave wrongly. -/
  misread : List Byte
  deriving DecidableEq, Repr

/-- The raw levels of the input pins when a reset ends (R164, R193). -/
structure Pins where
  ign : Bool
  supplyLow : Bool
  chipSelectLow : Bool
  ackPressed : Bool
  deriving DecidableEq, Repr

/-- What puts the part into reset (R193). -/
inductive ResetSource
  | supply | pin
  deriving DecidableEq, Repr

/-- The fields of a CARD frame (R87). -/
structure CardFields where
  slot : Byte
  event : Byte
  holder : BitVec 32
  continuous : BitVec 16
  daily : BitVec 16
  weekly : BitVec 16
  extensions : Byte
  breakState : Byte
  deriving DecidableEq, Repr

/-- The commands. A row that names one case of a wider step (a take or an order is a committed WRITE, a frame is a
completed CHECK byte) carries the data of that case. -/
inductive Instr
  /-- READ, R167. -/
  | read (t : Nat) (x : Xfer)
  /-- WRITE, R169. -/
  | write (t : Nat) (x : Xfer)
  /-- STATUS, R168. -/
  | status (t : Nat) (x : Xfer)
  /-- UNKNOWN_COMMAND, R166: the command byte and what is clocked after it. -/
  | unknownCommand (t : Nat) (code : Byte) (x : Xfer)
  /-- JOURNAL_FREE, R175: the one-byte WRITE of slot j's post mark into its clear mark. -/
  | journalFree (t : Nat) (j : Fin 32)
  /-- HOST_CAUSE_TAKE, R58: the WRITE of the four bytes of host cause record n. -/
  | hostCauseTake (t : Nat) (n : Fin 32) (stamp request tag argument : Byte)
  /-- GAUGE_DEMAND_TAKE, R29: the WRITE of gauge demand record c. -/
  | gaugeDemandTake (t : Nat) (c : Fin 8) (stamp mode : Byte) (value : BitVec 16)
  /-- TEXT_TAKE, R136: the WRITE of text record n. -/
  | textTake (t : Nat) (n : Fin 4) (stamp : Byte) (codes : Vector Byte 12)
  /-- ACKNOWLEDGE, R183: the WRITE of the order into slot k; likewise the nine orders below. -/
  | acknowledge (t : Nat) (k : Fin 8) (stamp cause : Byte)
  /-- RESET_TRIP, R184. -/
  | resetTrip (t : Nat) (k : Fin 8) (stamp trip : Byte)
  /-- REHOME, R185. -/
  | rehome (t : Nat) (k : Fin 8) (stamp mask : Byte)
  /-- LAMP_TEST, R186. -/
  | lampTest (t : Nat) (k : Fin 8) (stamp seconds : Byte)
  /-- SET_TIME, R187. -/
  | setTime (t : Nat) (k : Fin 8) (stamp : Byte) (day minute : BitVec 16) (second : Byte)
  /-- TAKE_SNAPSHOT, R188. -/
  | takeSnapshot (t : Nat) (k : Fin 8) (stamp : Byte)
  /-- SAVE_SETTINGS, R189. -/
  | saveSettings (t : Nat) (k : Fin 8) (stamp : Byte)
  /-- CALIBRATE, R190. -/
  | calibrate (t : Nat) (k : Fin 8) (stamp : Byte) (pulse : BitVec 16)
  /-- PRESET_ODOMETER, R191. -/
  | presetOdometer (t : Nat) (k : Fin 8) (stamp : Byte) (total : BitVec 32)
  /-- LOCK_CALIBRATION, R192. -/
  | lockCalibration (t : Nat) (k : Fin 8) (stamp : Byte)
  /-- SPEED_EDGE, R4, R5: a transition of the SPEED input, low to high when rising. -/
  | speedEdge (t : Nat) (rising : Bool)
  /-- SPEED_UPDATE, R10. -/
  | speedUpdate (t : Nat)
  /-- STALL_TIMER_EXPIRY, R11. -/
  | stallTimerExpiry (t : Nat)
  /-- PRESET_APPLY, R19: the preset of order slot k. -/
  | presetApply (t : Nat) (k : Fin 8)
  /-- FILTER_EVENT, R33. -/
  | filterEvent (t : Nat)
  /-- STEP_EVENT, R35: the channels whose undriven coil is silent at this event. -/
  | stepEvent (t : Nat) (silent : List (Fin 8))
  /-- HOMING_END, R38: the step event of channel c at which its homing count reaches 0. -/
  | homingEnd (t : Nat) (c : Fin 8)
  /-- FRESHNESS_EXPIRY, R30. -/
  | freshnessExpiry (t : Nat) (c : Fin 8)
  /-- ACK_INPUT_CHANGE, R59: the raw level of the button. -/
  | ackInputChange (t : Nat) (pressed : Bool)
  /-- ACK_PRESS, R59. -/
  | ackPress (t : Nat)
  /-- BLINK_PHASE_STEP, R63. -/
  | blinkPhaseStep (t : Nat)
  /-- LAMP_DIAGNOSTIC_SAMPLE, R66: the lamps whose diagnostic would read OPEN. -/
  | lampDiagnosticSample (t : Nat) (openLamps : List (Fin 48))
  /-- LAMP_TEST_END, R69. -/
  | lampTestEnd (t : Nat)
  /-- SILENCE_TIMER_EXPIRY, R73. -/
  | silenceTimerExpiry (t : Nat)
  /-- CHIME_PERIOD_END, R71. -/
  | chimePeriodEnd (t : Nat)
  /-- BYTE_COMPLETION, R82: the eight data bits and the sample of the stop bit (R81). -/
  | byteCompletion (t : Nat) (b : Byte) (stopHigh : Bool)
  /-- TIME_FRAME, R85. -/
  | timeFrame (t : Nat) (day minute : BitVec 16) (second : Byte)
  /-- ACTIVITY_FRAME, R86. -/
  | activityFrame (t : Nat) (slot activity : Byte) (minute : BitVec 16)
  /-- CARD_FRAME, R87. -/
  | cardFrame (t : Nat) (f : CardFields)
  /-- PRESENCE_FRAME, R88. -/
  | presenceFrame (t : Nat) (activity1 activity2 flags : Byte)
  /-- BYTE_GAP_EXPIRY, R83. -/
  | byteGapExpiry (t : Nat)
  /-- LINE_TIMER_EXPIRY, R90. -/
  | lineTimerExpiry (t : Nat)
  /-- LINE_MIRROR_UPDATE, R94. -/
  | lineMirrorUpdate (t : Nat)
  /-- MINUTE_EVENT, R97, R100: the rollover of second 59. -/
  | minuteEvent (t : Nat)
  /-- SNAPSHOT_TIMER_EXPIRY, R118. -/
  | snapshotTimerExpiry (t : Nat)
  /-- COMPOSE_EVENT, R135. -/
  | composeEvent (t : Nat)
  /-- BLINK_STEP, R134. -/
  | blinkStep (t : Nat)
  /-- FRAME_START, R124. -/
  | frameStart (t : Nat)
  /-- NVS_START, R155. -/
  | nvsStart (t : Nat)
  /-- ODO_PROGRAM_END, R145. -/
  | odoProgramEnd (t : Nat) (cells : Cells)
  /-- CAL_PROGRAM_END, R148. -/
  | calProgramEnd (t : Nat) (cells : Cells)
  /-- SNAP_PROGRAM_END, R150. -/
  | snapProgramEnd (t : Nat) (cells : Cells)
  /-- SETS_ERASE_STEP_END, R153. -/
  | setsEraseStepEnd (t : Nat)
  /-- SETS_PROGRAM_END, R153. -/
  | setsProgramEnd (t : Nat) (cells : Cells)
  /-- ERASE_END, R146. -/
  | eraseEnd (t : Nat)
  /-- RESET, R193: the reset ends with these pin levels. -/
  | reset (t : Nat) (pins : Pins)
  /-- LOADING_END, R196: the order in which the blocks react. -/
  | loadingEnd (t : Nat) (order : List Block)
  /-- IGN_INPUT_CHANGE, R195: the raw level of the ignition input. -/
  | ignInputChange (t : Nat) (on : Bool)
  /-- RUN_ENTRY, R197. -/
  | runEntry (t : Nat) (order : List Block)
  /-- STANDBY_ENTRY, R197. -/
  | standbyEntry (t : Nat) (order : List Block)
  /-- PROOF_END, R198. -/
  | proofEnd (t : Nat)
  /-- SUPPLY_INDICATION_CHANGE, R199: the comparator's output. -/
  | supplyIndicationChange (t : Nat) (low : Bool)
  /-- LOW_SET, R199. -/
  | lowSet (t : Nat)
  /-- LOW_CLEAR, R199. -/
  | lowClear (t : Nat) (order : List Block)
  /-- LOW_SUPPLY_TIMER_EXPIRY, R200. -/
  | lowSupplyTimerExpiry (t : Nat)
  /-- IGN_TAKES_NEW_LEVEL_IN_LOADING, R195. -/
  | ignTakesNewLevelInLoading (t : Nat)
  /-- ACK_RELEASE, R59. -/
  | ackRelease (t : Nat)
  /-- SECOND_CHANGE, R97. -/
  | secondChange (t : Nat)
  /-- LINE_IDLE_AFTER_STOP_BIT_ERROR, R81. -/
  | lineIdleAfterStopBitError (t : Nat)
  /-- CHIP_SELECT_RISE_IN_WAIT_CS, R164. -/
  | chipSelectRiseInWaitCs (t : Nat)
  /-- RESET_BEGIN, R193. -/
  | resetBegin (t : Nat) (source : ResetSource)
  deriving DecidableEq, Repr

end Sys2Proof
end

