-- ==== Sys2Proof/Config.lean ====
section
/-! DEFINITION. The free values: what the spec leaves open while the part goes on. None has a body,
so a claim about one holds whatever it is (log entry 4). -/

namespace Sys2Proof

/-- What an erase that was abandoned (R158) or cut off by a reset (R159) leaves in the byte at an address of its
sector, before the limits that the spec sets on it are applied. The first argument numbers the occasions. UNVERIFIED. -/
opaque Config.interruptedErase : Nat → Nat → BitVec 8

/-- The byte shifted out as the n-th byte of a transaction while the port is in IGNORE or WAIT_CS: R166 and R164
say what the port does there and not what it drives. -/
opaque Config.undrivenOut : Nat → BitVec 8

/-- The on-period count byte of the sounder mirror (R205) for a count above 255: the spec says neither that it wraps nor that it saturates. -/
opaque Config.onCountByte : Nat → BitVec 8

/-- 'The day before' (R110) when the present day is 0. -/
opaque Config.dayBeforeEpoch : BitVec 16

end Sys2Proof
end

