-- ==== Sys2Proof/Machine/State.lean ====
section
/-! DEFINITION. The state of the part as plain data, block by block, and the state right after reset.
Times are instants in µs of the 1 µs time base. A timer is the instant of its expiry, or none while it is stopped. -/

namespace Sys2Proof.Machine

/-- Nothing in the part stops it (INVENTORY.md, Faults), so no command ends in a fault. -/
inductive Fault
  deriving DecidableEq, Repr

/-- The reasons to have no meaning. -/
inductive Refusal
  /-- Raised by `exec`'s arm of a command that has no meaning yet; safe. No arm raises it now. -/
  | notModelled (mnemonic : String)
  deriving DecidableEq, Repr

/-- Bytes by address, addresses strictly rising, no entry equal to what an unlisted address reads as. -/
abbrev Memory := List Host.Cell

/-! ### PSC -/

/-- The power state (R194). PROOF and NORMAL together make RUN. -/
inductive Power
  | loading | proof | normal | standby
  deriving DecidableEq, Repr

/-- What caused the last reset (R193). -/
inductive ResetCause
  | powerOn | external
  deriving DecidableEq, Repr

/-- PSC's state (10_power_states.md, 'PSC state'). -/
structure Psc where
  /-- The part is held in reset (R193). -/
  held : Bool
  /-- The supply was below the reset threshold during the reset (R193). -/
  bySupply : Bool
  power : Power
  ign : Bool
  /-- The raw level of the ignition input (R195). -/
  ignRaw : Bool
  ignRun : Option Nat
  /-- The supply indication: the comparator reads low (R199). -/
  supplyLow : Bool
  low : Bool
  supplyRun : Option Nat
  lowTimer : Option Nat
  lowAssert : Bool
  proofTimer : Option Nat
  cause : ResetCause
  deriving DecidableEq, Repr

/-! ### SPD -/

inductive GateState
  | idle | gating | running
  deriving DecidableEq, Repr

/-- The gate now counting (R6). -/
structure Gate where
  openedAt : Nat
  n : Nat
  rejected : Nat
  deriving DecidableEq, Repr

/-- SPD's state (01_road_speed_and_distance.md, 'SPD state'). -/
structure Spd where
  gateState : GateState
  gate : Option Gate
  lastN : Nat
  lastTsum : Nat
  vPub : Nat
  hold : Nat
  lastEdge : Option Nat
  stallTimer : Option Nat
  moving : Bool
  confirmRun : Option Nat
  overspeed : Bool
  noise : Bool
  rejected : Nat
  /-- The distance remainder S (R15). -/
  remainder : Nat
  odometer : Nat
  tripA : Nat
  tripB : Nat
  deriving DecidableEq, Repr

/-! ### GAU -/

inductive ChannelState
  | unhomed | homing | sweep | tracking | stale | parking | parked | fault
  deriving DecidableEq, Repr

inductive DemandMode
  | track | hold | rest
  deriving DecidableEq, Repr

inductive GaugeSource
  | off | speed | host
  deriving DecidableEq, Repr

inductive Direction
  | down | up
  deriving DecidableEq, Repr

inductive SweepLeg
  | upLeg | downLeg
  deriving DecidableEq, Repr

/-- A channel record (02_needle_gauges.md, 'The channel record'). -/
structure Channel where
  state : ChannelState
  /-- The source setting found at the last filter event (R27). -/
  source : GaugeSource
  /-- The mode and value of the last host demand record stored (R27, R29). -/
  storedMode : DemandMode
  storedValue : Nat
  x : Nat
  mode : DemandMode
  fresh : Bool
  freshTimer : Option Nat
  /-- The demand angle a. -/
  demand : Nat
  /-- The damped target t. -/
  target : Nat
  /-- The position p. -/
  pos : Nat
  /-- The velocity v. -/
  vel : Nat
  dir : Direction
  /-- The a_max in use. -/
  aMax : Nat
  /-- The homing count. -/
  count : Nat
  sweepDue : Bool
  parkDue : Bool
  leg : SweepLeg
  /-- a_0 as the last filter event read it, 0 where it found no valid table (R25, R31, R35). -/
  restAngle : Nat
  missing : Nat
  stallCount : Nat
  rehomeAt : Option Nat
  calibration : Bool
  defaulted : Bool
  warning : Bool
  deriving DecidableEq, Repr

/-- GAU's state: the eight channels and its views of causes 42 and 43. -/
structure Gau where
  channels : Vector Channel 8
  faultAssert : Bool
  staleAssert : Bool
  deriving DecidableEq, Repr

/-! ### TTU -/

inductive CauseState
  | clear | active | acked | held
  deriving DecidableEq, Repr

/-- One cause (03_causes_telltales_and_the_sounder.md, 'TTU state'). -/
structure Cause where
  state : CauseState
  cls : Nat
  argument : Byte
  dropped : Bool
  deriving DecidableEq, Repr

/-- The content of the last host cause record taken (R58): the request is a raise, the tag, the argument. -/
structure HostRecord where
  raise : Bool
  tag : Nat
  argument : Byte
  deriving DecidableEq, Repr

/-- One cause's claim on the sounder (R72). -/
structure Request where
  cause : Fin 53
  cls : Nat
  arrival : Nat
  pattern : Nat
  deriving DecidableEq, Repr

/-- A divider pair (R70). -/
structure Tone where
  div : Nat
  n : Nat
  deriving DecidableEq, Repr

/-- A latched chime pattern (R71). The on and off times count 10 ms. -/
structure ChimePattern where
  tone1 : Tone
  tone2 : Option Tone
  onTime : Nat
  offTime : Nat
  repeats : Nat
  deriving DecidableEq, Repr

/-- The playing chime and its progress (R72). -/
structure Playing where
  request : Request
  pattern : ChimePattern
  onCount : Nat
  isOn : Bool
  endsAt : Nat
  deriving DecidableEq, Repr

inductive LampPattern
  | steady | slow | fast | flash
  deriving DecidableEq, Repr

/-- A lamp record and the lamp's membership of the proof-hold set (R68). -/
structure Lamp where
  lit : Bool
  output : Bool
  pattern : LampPattern
  openRun : Nat
  isOpen : Bool
  hold : Bool
  deriving DecidableEq, Repr

/-- TTU's state. -/
structure Ttu where
  causes : Vector Cause 53
  hostRecords : Vector HostRecord 32
  queue : List Request
  playing : Option Playing
  arrival : Nat
  silence : Option Nat
  blink : Nat
  lamps : Vector Lamp 48
  lampTest : Option Nat
  /-- The remaining test time as the lamp mirror was last written (R79), in ms. -/
  testLeft : Nat
  lampFault : Bool
  /-- The debounced ACK input is pressed. -/
  ack : Bool
  ackRaw : Bool
  /-- The start of the run of a raw level that differs from the debounced one (R59). -/
  ackRun : Option Nat
  deriving DecidableEq, Repr

/-! ### TLR -/

inductive RxState
  | hunt | type | length | payload | check
  deriving DecidableEq, Repr

inductive LineState
  | unknown | alive | lost
  deriving DecidableEq, Repr

/-- TLR's state (04_the_tachograph_line.md, 'TLR state'). -/
structure Tlr where
  rx : RxState
  frameType : Byte
  len : Byte
  payload : List Byte
  count : Nat
  sum : Nat
  gapTimer : Option Nat
  /-- After a stop-bit error, until the line has been high for one bit time (R81). -/
  waitIdle : Bool
  line : LineState
  lineTimer : Option Nat
  reference : Nat
  lastFrame : Option (Nat × Byte)
  errors : Nat
  lostAssert : Bool
  /-- The time field of the line mirror as last written (R94). -/
  mirrorTime : Nat
  deriving DecidableEq, Repr

/-! ### DTU -/

inductive Activity
  | rest | available | work | drive | unknown
  deriving DecidableEq, Repr

inductive Source
  | none | tacho | presence | implied
  deriving DecidableEq, Repr

/-- An entry of an activity log (R115). -/
structure LogEntry where
  activity : Activity
  source : Source
  startDay : Nat
  startMinute : Nat
  duration : Nat
  gap : Bool
  conflict : Bool
  deriving DecidableEq, Repr

/-- The five warning flags (R104). -/
structure Warnings where
  contPre : Bool
  contLimit : Bool
  dailyPre : Bool
  dailyLimit : Bool
  weeklyLimit : Bool
  deriving DecidableEq, Repr

/-- A driver record (05_driver_time_accounting.md, 'DTU state') with its activity log by ring position. -/
structure Driver where
  present : Bool
  holder : Nat
  holderValid : Bool
  report : Option (Activity × Source)
  activity : Activity
  source : Source
  sinceDay : Nat
  sinceMinute : Nat
  cd : Nat
  dd : Nat
  wd : Nat
  br : Nat
  /-- The break state is FIRST_PART. -/
  firstPart : Bool
  /-- The daily limit in force is EXTENDED. -/
  extended : Bool
  extensions : Nat
  flags : Warnings
  restored : Bool
  remContinuous : Nat
  remDaily : Nat
  remWeekly : Nat
  remBreak : Nat
  logCount : Nat
  logHead : Nat
  log : Vector LogEntry 32
  deriving DecidableEq, Repr

/-- DTU's state. -/
structure Dtu where
  drivers : Vector Driver 2
  day : Nat
  minute : Nat
  second : Nat
  /-- The instant at which the present second began: the milliseconds are counted from it (R97). -/
  secondStart : Nat
  timeValid : Bool
  lastDay : Nat
  lastMinute : Nat
  moving : Bool
  line : LineState
  crewConflict : Bool
  motionPosted : Bool
  snapTimer : Option Nat
  assert45 : Bool
  assert46 : Bool
  assert47 : Bool
  assert48 : Bool
  assert49 : Bool
  /-- The profile state is DEFAULTED (R96). -/
  profileDefaulted : Bool
  deriving DecidableEq, Repr

/-! ### SDU -/

inductive PanelState
  | undriven | allOn | composed
  deriving DecidableEq, Repr

inductive FieldState
  | off | invalid | shown | overrange | noData
  deriving DecidableEq, Repr

/-- The outcome of the last compose event for one field (R131, R132). -/
structure FieldRecord where
  state : FieldState
  blinking : Bool
  won : Nat
  deriving DecidableEq, Repr

/-- One bit per panel position: row COM, bit SEG (06_segment_display.md). -/
abbrev Image := Vector (BitVec 52) 4

/-- What the panel drive is showing (R124): the image latched for the frame and the polarities. -/
structure Drive where
  image : Image
  inverted : Bool
  nextInverted : Bool
  deriving DecidableEq, Repr

/-- SDU's state. -/
structure Sdu where
  panel : PanelState
  rate : Nat
  /-- The composed contents: lit positions, and those lit only by blink-maskable segments and icons (R134). -/
  composed : Image
  maskable : Image
  image : Image
  fields : Vector FieldRecord 16
  texts : Vector (Vector Byte 12) 4
  blinkOn : Bool
  count : Nat
  drive : Drive
  deriving DecidableEq, Repr

/-! ### NVS -/

/-- The program request kinds (R154). -/
inductive Kind
  | odo | cal | snap | sets
  deriving DecidableEq, Repr

/-- A pending request: how many failures are counted, and the slot of the failed program (R157). -/
structure Pending where
  failures : Nat
  failedSlot : Nat
  deriving DecidableEq, Repr

/-- What a CAL request will program (R148). -/
structure CalContent where
  pulse : Nat
  locked : Bool
  deriving DecidableEq, Repr

/-- A program in flight (R141): its record goes to `addr`, one 4-byte word in 60 µs. -/
structure Prog where
  kind : Kind
  slot : Nat
  addr : Nat
  bytes : List Byte
  startedAt : Nat
  endsAt : Nat
  failures : Nat
  /-- The content of a CAL program, for its retry (R157). -/
  content : CalContent
  deriving DecidableEq, Repr

/-- An erase (R141): of a ring sector, or the erase step of SETS (R153). -/
structure EraseOp where
  sector : Nat
  forSets : Bool
  /-- The failures counted of the SETS request it belongs to. -/
  failures : Nat
  startedAt : Nat
  remaining : Nat
  deriving DecidableEq, Repr

/-- The operation in flight (R155, R156). -/
inductive Flight
  | none
  | program (p : Prog)
  | erase (e : EraseOp)
  | suspended (e : EraseOp) (p : Prog)
  deriving DecidableEq, Repr

/-- The fault set (R157). -/
structure FaultSet where
  odo : Bool
  cal : Bool
  snap : Bool
  sets : Bool
  deriving DecidableEq, Repr

/-- NVS's state (07_non_volatile_store.md, 'NVS state'). -/
structure Nvs where
  active : Bool
  odo : Option Pending
  cal : Option (CalContent × Pending)
  snap : Option Pending
  sets : Option Pending
  /-- The erase-due set, by sector. -/
  due : Vector Bool 14
  flight : Flight
  odoPtr : Nat
  odoSeq : Nat
  snapPtr : Nat
  snapSeq : Nat
  calPtr : Nat
  /-- The pulse constant in force P. -/
  pulse : Nat
  locked : Bool
  /-- The load control of sections 1–15. -/
  loadControl : Vector Byte 15
  faults : FaultSet
  storeFault : Bool
  /-- The load outcome is DEFAULTED. -/
  loadDefaulted : Bool
  bitmap : Nat
  array : Memory
  /-- The model's own note of the calibration slots whose program a reset cut off part-way (R159). DEDUCED: log entry 36. -/
  calCut : List Nat
  deriving DecidableEq, Repr

/-! ### LNK -/

inductive PortState
  | idle | command | address | turnaround | data | ignore | waitCs
  deriving DecidableEq, Repr

inductive LinkCommand
  | read | write | status | unknown
  deriving DecidableEq, Repr

/-- Why the last WRITE was discarded, or NONE (R169). -/
inductive Discard
  | none | ragged | length | protectedByte | outside | notReady
  deriving DecidableEq, Repr

/-- The port (R164, R166, R167, R169). -/
structure Port where
  csLow : Bool
  state : PortState
  command : Option LinkCommand
  /-- Address bytes received. -/
  addressBytes : Nat
  address : Nat
  writeStart : Nat
  writeBuffer : List Byte
  writeCount : Nat
  /-- The captured line and its number (R167). -/
  lineNumber : Nat
  line : List Byte
  /-- The bytes shifted out in the present transaction, or in the last one, oldest first. -/
  out : List Byte
  deriving DecidableEq, Repr

/-- The record kinds (R172). -/
inductive RecordKind
  | causeChange | gaugeState | lampFault | lineState | lineError | card | activity | driveLimit
  | motionConflict | timeSet | storeFault | orderDone | power | loadOutcome | snapshotSaved
  deriving DecidableEq, Repr

/-- The part-owned fields of a journal slot (R172). The clear mark is a host-owned byte. -/
structure JournalSlot where
  post : Byte
  kind : RecordKind
  fold : Nat
  sequence : Nat
  day : Nat
  minute : Nat
  payload : List Byte
  deriving DecidableEq, Repr

/-- A backlog entry (R174). -/
structure BacklogEntry where
  kind : RecordKind
  fold : Nat
  day : Nat
  minute : Nat
  payload : List Byte
  deriving DecidableEq, Repr

/-- The long order a slot runs and the stage it has reached (R179, R188–R192). -/
inductive Progress
  | idle
  | snapWaiting | snapArmed
  | saving
  | calibrating
  | locking
  | presetApplying (total : Nat) | presetWaiting | presetArmed
  deriving DecidableEq, Repr

/-- The order logic's part of an order slot (R179, R204). -/
structure OrderSlot where
  progress : Progress
  echo : Byte
  result : Byte
  detail : Nat
  deriving DecidableEq, Repr

/-- LNK's state (08_exchange_memory_and_the_serial_link.md, 'LNK state') and the order logic's (09_orders.md). -/
structure Lnk where
  port : Port
  discard : Discard
  journal : Vector JournalSlot 32
  cursor : Nat
  postCounter : Nat
  backlog : List BacklogEntry
  causeEcho : Vector Byte 32
  gaugeEcho : Vector Byte 8
  textEcho : Vector Byte 4
  orders : Vector OrderSlot 8
  deriving DecidableEq, Repr

/-! ### The whole part -/

/-- The state of the part. -/
structure State where
  /-- The present instant of the 1 µs time base. -/
  now : Nat
  psc : Psc
  spd : Spd
  gau : Gau
  ttu : Ttu
  tlr : Tlr
  dtu : Dtu
  sdu : Sdu
  nvs : Nvs
  lnk : Lnk
  /-- The host-owned bytes of the exchange memory (R165). An unlisted address reads 00h. -/
  host : Memory
  /-- How many free values have been used (log entry 4). -/
  freeCount : Nat
  /-- The commands that wait, first in, first out. -/
  pending : List Instr
  deriving DecidableEq, Repr

/-! ### The reset values -/

/-- R193. DESIGN CHOICE: log entry 5. -/
def Psc.reset : Psc where
  held := false
  bySupply := true
  power := .loading
  ign := false
  ignRaw := false
  ignRun := none
  supplyLow := false
  low := false
  supplyRun := none
  lowTimer := none
  lowAssert := false
  proofTimer := none
  cause := .powerOn

/-- R1. DESIGN CHOICE: log entry 9. -/
def Spd.reset : Spd where
  gateState := .idle
  gate := none
  lastN := 0
  lastTsum := 0
  vPub := 0
  hold := 0
  lastEdge := none
  stallTimer := none
  moving := false
  confirmRun := none
  overspeed := false
  noise := false
  rejected := 0
  remainder := 0
  odometer := 0
  tripA := 0
  tripB := 0

/-- R24. DESIGN CHOICE: log entry 7. -/
def Channel.reset : Channel where
  state := .unhomed
  source := .off
  storedMode := .track
  storedValue := 0
  x := 0
  mode := .track
  fresh := true
  freshTimer := none
  demand := 0
  target := 0
  pos := 0
  vel := 0
  dir := .down
  aMax := 0
  count := 0
  sweepDue := false
  parkDue := false
  leg := .upLeg
  restAngle := 0
  missing := 0
  stallCount := 0
  rehomeAt := none
  calibration := false
  defaulted := false
  warning := false

/-- R24. -/
def Gau.reset : Gau where
  channels := Vector.replicate 8 Channel.reset
  faultAssert := false
  staleAssert := false

/-- R51. -/
def Cause.reset : Cause where
  state := .clear
  cls := 3
  argument := 0
  dropped := false

/-- R51. -/
def Lamp.reset : Lamp where
  lit := false
  output := false
  pattern := .steady
  openRun := 0
  isOpen := false
  hold := false

/-- R51. DESIGN CHOICE: log entry 5. -/
def Ttu.reset : Ttu where
  causes := Vector.replicate 53 Cause.reset
  hostRecords := Vector.replicate 32 ⟨false, 0, 0⟩
  queue := []
  playing := none
  arrival := 0
  silence := none
  blink := 0
  lamps := Vector.replicate 48 Lamp.reset
  lampTest := none
  testLeft := 0
  lampFault := false
  ack := false
  ackRaw := false
  ackRun := none

/-- R80. DESIGN CHOICE: log entry 6. -/
def Tlr.reset : Tlr where
  rx := .hunt
  frameType := 0
  len := 0
  payload := []
  count := 0
  sum := 0
  gapTimer := none
  waitIdle := false
  line := .unknown
  lineTimer := none
  reference := 0
  lastFrame := none
  errors := 0
  lostAssert := false
  mirrorTime := 65535

/-- An entry of an empty log reads 00h (R164). -/
def LogEntry.blank : LogEntry where
  activity := .rest
  source := .none
  startDay := 0
  startMinute := 0
  duration := 0
  gap := false
  conflict := false

/-- No warning flag set. -/
def Warnings.clear : Warnings := ⟨false, false, false, false, false⟩

/-- R95. DESIGN CHOICE: log entry 9. -/
def Driver.reset : Driver where
  present := false
  holder := 0
  holderValid := false
  report := none
  activity := .unknown
  source := .none
  sinceDay := 0
  sinceMinute := 0
  cd := 0
  dd := 0
  wd := 0
  br := 0
  firstPart := false
  extended := false
  extensions := 0
  flags := Warnings.clear
  restored := false
  remContinuous := 0
  remDaily := 0
  remWeekly := 0
  remBreak := 0
  logCount := 0
  logHead := 0
  log := Vector.replicate 32 LogEntry.blank

/-- R95. -/
def Dtu.reset : Dtu where
  drivers := Vector.replicate 2 Driver.reset
  day := 0
  minute := 0
  second := 0
  secondStart := 0
  timeValid := false
  lastDay := 0
  lastMinute := 0
  moving := false
  line := .unknown
  crewConflict := false
  motionPosted := false
  snapTimer := none
  assert45 := false
  assert46 := false
  assert47 := false
  assert48 := false
  assert49 := false
  profileDefaulted := false

/-- Every position not lit. -/
def Image.dark : Image := Vector.replicate 4 0

/-- R123. DESIGN CHOICE: log entry 8. -/
def Sdu.reset : Sdu where
  panel := .undriven
  rate := 1
  composed := Image.dark
  maskable := Image.dark
  image := Image.dark
  fields := Vector.replicate 16 ⟨.off, false, 0⟩
  texts := Vector.replicate 4 (Vector.replicate 12 0)
  blinkOn := true
  count := 0
  drive := ⟨Image.dark, false, false⟩

/-- R140: the array keeps its contents through every reset, and with it the note of the calibration slots cut off (log entry 36).
DESIGN CHOICE: log entry 9. -/
def Nvs.reset (array : Memory) (calCut : List Nat) : Nvs where
  active := false
  odo := none
  cal := none
  snap := none
  sets := none
  due := Vector.replicate 14 false
  flight := .none
  odoPtr := 0
  odoSeq := 0
  snapPtr := 0
  snapSeq := 1
  calPtr := 0
  pulse := 8000
  locked := false
  loadControl := Vector.replicate 15 1
  faults := ⟨false, false, false, false⟩
  storeFault := false
  loadDefaulted := false
  bitmap := 0
  array := array
  calCut := calCut

/-- R164. DESIGN CHOICE, of the command, the address and the captured line: log entry 10. -/
def Port.reset (csLow : Bool) : Port where
  csLow := csLow
  state := if csLow then .waitCs else .idle
  command := none
  addressBytes := 0
  address := 0
  writeStart := 0
  writeBuffer := []
  writeCount := 0
  lineNumber := 0
  line := []
  out := []

/-- R164, R179. DESIGN CHOICE: log entry 5. -/
def Lnk.reset (csLow : Bool) : Lnk where
  port := Port.reset csLow
  discard := .none
  journal := Vector.replicate 32 ⟨0, .causeChange, 0, 0, 0, 0, []⟩
  cursor := 0
  postCounter := 0
  backlog := []
  causeEcho := Vector.replicate 32 0
  gaugeEcho := Vector.replicate 8 0
  textEcho := Vector.replicate 4 0
  orders := Vector.replicate 8 ⟨.idle, 0, 0, 0⟩

/-- The part right after the first power-on reset, its array erased (log entries 3, 5, 9). -/
def State.reset : State where
  now := 0
  psc := Psc.reset
  spd := Spd.reset
  gau := Gau.reset
  ttu := Ttu.reset
  tlr := Tlr.reset
  dtu := Dtu.reset
  sdu := Sdu.reset
  nvs := Nvs.reset [] []
  lnk := Lnk.reset false
  host := []
  freeCount := 0
  pending := []

end Sys2Proof.Machine
end

