-- ==== Sys2Proof/Machine/Ops.lean ====
section
/-! DEFINITION. The named operations every block uses: bytes, memory, the clock of a command, the updates of
State, and posting to the journal (R172–R176). -/

namespace Sys2Proof.Machine

/-! ### Numbers and bytes -/

/-- A count that holds at its limit. -/
def satAdd (limit n k : Nat) : Nat := min limit (n + k)

/-- The low byte of a number. -/
def u8 (n : Nat) : Byte := BitVec.ofNat 8 n

/-- A flag reads 1 when set (11_record_and_frame_layouts.md). -/
def flag (b : Bool) : Nat := if b then 1 else 0

/-- The little-endian bytes of a number, `k` of them. -/
def le : Nat → Nat → List Byte
  | 0, _ => []
  | k + 1, n => u8 n :: le k (n / 256)

/-- The number whose little-endian bytes are given. -/
def ofLe : List Byte → Nat
  | [] => 0
  | b :: bs => b.toNat + 256 * ofLe bs

/-- The first `k` bytes, with 00h after the last (R202). -/
def padTo : Nat → List Byte → List Byte
  | 0, _ => []
  | k + 1, [] => 0 :: padTo k []
  | k + 1, b :: bs => b :: padTo k bs

/-- Bit `i` of a byte. -/
def bit (b : Byte) (i : Nat) : Bool := b.toNat / 2 ^ i % 2 == 1

/-- The field of `w` bits from bit `i` of a byte. -/
def field (b : Byte) (i w : Nat) : Nat := b.toNat / 2 ^ i % 2 ^ w

/-- A value outside its range is used at its default. -/
def inRange (lo hi dflt v : Nat) : Nat := if lo ≤ v ∧ v ≤ hi then v else dflt

/-- A value lies outside its range. -/
def outOf (lo hi v : Nat) : Bool := !decide (lo ≤ v ∧ v ≤ hi)

/-- The items that `pref` names, in its order, and then the others in theirs. DESIGN CHOICE: log entry 2. -/
def arrange {α : Type} [DecidableEq α] (pref items : List α) : List α :=
  (pref.dedup.filter fun a => decide (a ∈ items)) ++ items.filter fun a => !decide (a ∈ pref)

/-! ### Vectors -/

/-- `v` with entry `i` set. -/
def vset {α : Type} {n : Nat} (v : Vector α n) (i : Fin n) (x : α) : Vector α n := v.set i.val x i.isLt

/-- Every entry mapped, with its number. -/
def vmap {α β : Type} {n : Nat} (f : Fin n → α → β) (v : Vector α n) : Vector β n :=
  Vector.ofFn fun i => f i v[i]

/-! ### Memory -/

/-- The byte at an address; `d` is what an unlisted address reads as. -/
def Memory.read (d : Byte) : Memory → Nat → Byte
  | [], _ => d
  | (b, v) :: m, a => if a = b then v else if a < b then d else Memory.read d m a

/-- The memory with one byte written, in canonical form. -/
def Memory.write (d : Byte) : Memory → Nat → Byte → Memory
  | [], a, v => if v = d then [] else [(a, v)]
  | (b, w) :: m, a, v =>
      if a = b then (if v = d then m else (a, v) :: m)
      else if a < b then (if v = d then (b, w) :: m else (a, v) :: (b, w) :: m)
      else (b, w) :: Memory.write d m a v

/-- The bytes written from an address upward. -/
def Memory.writeList (d : Byte) : Memory → Nat → List Byte → Memory
  | m, _, [] => m
  | m, a, b :: bs => Memory.write d (Memory.writeList d m (a + 1) bs) a b

/-- The `k` bytes from an address upward. -/
def Memory.readList (d : Byte) (m : Memory) : Nat → Nat → List Byte
  | _, 0 => []
  | a, k + 1 => Memory.read d m a :: Memory.readList d m (a + 1) k

/-- The memory with every address from `lo` to `lo + k - 1` reading as unlisted. -/
def Memory.forget (m : Memory) (lo k : Nat) : Memory := m.filter fun c => decide (c.1 < lo ∨ lo + k ≤ c.1)

/-- The canonical form: addresses strictly rising, no entry equal to what an unlisted address reads as. -/
def Memory.wf (d : Byte) : Memory → Bool
  | [] => true
  | [(_, v)] => v != d
  | (a, v) :: (b, w) :: m => v != d && decide (a < b) && Memory.wf d ((b, w) :: m)

/-- A byte of the host-owned regions: 00h after reset (R164). -/
def hostByte (s : State) (a : Nat) : Byte := Memory.read 0 s.host a

/-- A 16-bit field of the host-owned regions. -/
def host16 (s : State) (a : Nat) : Nat := (hostByte s a).toNat + 256 * (hostByte s (a + 1)).toNat

/-- A byte of the array: an erased byte reads FFh (R141). -/
def arrayByte (s : State) (a : Nat) : Byte := Memory.read 0xFF s.nvs.array a

/-- A run of bytes of the array. -/
def arrayBytes (s : State) (a k : Nat) : List Byte := Memory.readList 0xFF s.nvs.array a k

/-! ### Updates of State -/

def State.setPsc (s : State) (x : Psc) : State := { s with psc := x }
def State.setSpd (s : State) (x : Spd) : State := { s with spd := x }
def State.setGau (s : State) (x : Gau) : State := { s with gau := x }
def State.setTtu (s : State) (x : Ttu) : State := { s with ttu := x }
def State.setTlr (s : State) (x : Tlr) : State := { s with tlr := x }
def State.setDtu (s : State) (x : Dtu) : State := { s with dtu := x }
def State.setSdu (s : State) (x : Sdu) : State := { s with sdu := x }
def State.setNvs (s : State) (x : Nvs) : State := { s with nvs := x }
def State.setLnk (s : State) (x : Lnk) : State := { s with lnk := x }
def State.setHost (s : State) (x : Memory) : State := { s with host := x }

/-- Channel c. -/
def State.channel (s : State) (c : Fin 8) : Channel := s.gau.channels[c]
/-- Channel c replaced. -/
def State.setChannel (s : State) (c : Fin 8) (x : Channel) : State :=
  s.setGau { s.gau with channels := vset s.gau.channels c x }
/-- Cause n. -/
def State.causeOf (s : State) (n : Fin 53) : Cause := s.ttu.causes[n]
/-- Cause n replaced. -/
def State.setCause (s : State) (n : Fin 53) (x : Cause) : State :=
  s.setTtu { s.ttu with causes := vset s.ttu.causes n x }
/-- The driver record of a slot: 0 stands for slot 1 and 1 for slot 2. -/
def State.driver (s : State) (i : Fin 2) : Driver := s.dtu.drivers[i]
/-- A driver record replaced. -/
def State.setDriver (s : State) (i : Fin 2) (x : Driver) : State :=
  s.setDtu { s.dtu with drivers := vset s.dtu.drivers i x }
/-- The order logic's part of order slot k. -/
def State.orderSlot (s : State) (k : Fin 8) : OrderSlot := s.lnk.orders[k]
/-- The order logic's part of order slot k replaced. -/
def State.setOrderSlot (s : State) (k : Fin 8) (x : OrderSlot) : State :=
  s.setLnk { s.lnk with orders := vset s.lnk.orders k x }

/-! ### Power and time -/

/-- The power state is PROOF or NORMAL (R194). -/
def inRun (s : State) : Bool := s.psc.power == .proof || s.psc.power == .normal
def inLoading (s : State) : Bool := s.psc.power == .loading
def inStandby (s : State) : Bool := s.psc.power == .standby
def inNormal (s : State) : Bool := s.psc.power == .normal

/-- The time base stands at the command's instant. It never goes back. -/
def tick (t : Nat) (s : State) : State := { s with now := max s.now t }

/-- A timer runs and its expiry has come. -/
def expired (now : Nat) : Option Nat → Bool
  | none => false
  | some e => decide (e ≤ now)

/-- A run has lasted for `d` µs. -/
def lasted (now d : Nat) : Option Nat → Bool
  | none => false
  | some start => decide (start + d ≤ now)

/-- While the part is held in reset no block acts, no time base runs and no event occurs (R193). Otherwise the
command acts at its instant. DEDUCED: log entry 33. -/
def live (t : Nat) (f : State → State) (s : State) : Host.Outcome State Fault Refusal :=
  .next (if s.psc.held then s else f (tick t s))

/-- An event whose condition does not stand does not occur. -/
def onlyIf (p : Bool) (f : State → State) (s : State) : State := if p then f s else s

/-! ### The journal -/

/-- The code of a record kind (R172). -/
def RecordKind.code : RecordKind → Nat
  | .causeChange => 0
  | .gaugeState => 1
  | .lampFault => 2
  | .lineState => 3
  | .lineError => 4
  | .card => 5
  | .activity => 6
  | .driveLimit => 7
  | .motionConflict => 8
  | .timeSet => 9
  | .storeFault => 10
  | .orderDone => 11
  | .power => 12
  | .loadOutcome => 13
  | .snapshotSaved => 14

/-- The address of journal slot j (R165, R206). -/
def journalAddr (j : Nat) : Nat := 0x1400 + 16 * j

/-- The clear mark of slot j: the host-owned byte 1 of the slot. -/
def clearMark (s : State) (j : Fin 32) : Byte := hostByte s (journalAddr j.val + 1)

/-- A slot is filled while its post mark differs from its clear mark (R172). -/
def slotFilled (s : State) (j : Fin 32) : Bool := s.lnk.journal[j].post != clearMark s j

/-- The slot at the cursor. -/
def cursorSlot (s : State) : Fin 32 := Fin.ofNat 32 s.lnk.cursor

/-- The posting of R173 into the cursor slot, with the given fold count, time and payload. -/
def postAtCursor (kind : RecordKind) (fold day minute : Nat) (payload : List Byte) (s : State) : State :=
  let j := cursorSlot s
  s.setLnk { s.lnk with
    journal := vset s.lnk.journal j
      { post := clearMark s j + 1, kind := kind, fold := fold, sequence := s.lnk.postCounter
        day := day, minute := minute, payload := payload }
    cursor := (s.lnk.cursor + 1) % 32
    postCounter := (s.lnk.postCounter + 1) % 65536 }

/-- Folding into the backlog (R174). -/
def foldInto (kind : RecordKind) (day minute : Nat) (payload : List Byte) :
    List BacklogEntry → List BacklogEntry
  | [] => [{ kind := kind, fold := 1, day := day, minute := minute, payload := payload }]
  | e :: es =>
      if e.kind = kind then
        { kind := kind, fold := satAdd 255 e.fold 1, day := day, minute := minute, payload := payload } :: es
      else e :: foldInto kind day minute payload es

/-- A block hands LNK a record (R173, R174). The day is DTU's day modulo 512 (R172). -/
def post (kind : RecordKind) (payload : List Byte) (s : State) : State :=
  let day := s.dtu.day % 512
  if slotFilled s (cursorSlot s) then
    s.setLnk { s.lnk with backlog := foldInto kind day s.dtu.minute (padTo 8 payload) s.lnk.backlog }
  else postAtCursor kind 1 day s.dtu.minute (padTo 8 payload) s

/-- Draining (R175): entries are posted from the head while the slot at the cursor is free. -/
def drain : List BacklogEntry → State → State
  | [], s => s.setLnk { s.lnk with backlog := [] }
  | e :: es, s =>
      if slotFilled s (cursorSlot s) then s.setLnk { s.lnk with backlog := e :: es }
      else drain es (postAtCursor e.kind e.fold e.day e.minute e.payload s)

end Sys2Proof.Machine
end

