-- ==== Sys2Proof/Machine/Operands.lean ====
section
/-! DEFINITION. What the blocks read from the settings area (R209), each field with its range and default, and the
codes of the enumerated values (R203). -/

namespace Sys2Proof.Machine

/-! ### Codes (R203) -/

def Power.code : Power → Nat
  | .loading => 0
  | .proof => 1
  | .normal => 2
  | .standby => 3

def ResetCause.code : ResetCause → Nat
  | .powerOn => 0
  | .external => 1

def GateState.code : GateState → Nat
  | .idle => 0
  | .gating => 1
  | .running => 2

def ChannelState.code : ChannelState → Nat
  | .unhomed => 0
  | .homing => 1
  | .sweep => 2
  | .tracking => 3
  | .stale => 4
  | .parking => 5
  | .parked => 6
  | .fault => 7

def DemandMode.code : DemandMode → Nat
  | .track => 0
  | .hold => 1
  | .rest => 2

def CauseState.code : CauseState → Nat
  | .clear => 0
  | .active => 1
  | .acked => 2
  | .held => 3

def LampPattern.code : LampPattern → Nat
  | .steady => 0
  | .slow => 1
  | .fast => 2
  | .flash => 3

def LineState.code : LineState → Nat
  | .unknown => 0
  | .alive => 1
  | .lost => 2

def Activity.code : Activity → Nat
  | .rest => 0
  | .available => 1
  | .work => 2
  | .drive => 3
  | .unknown => 4

/-- The activity of a code. A code above 4 stands in no record that the part verified. DEDUCED: log entry 11. -/
def Activity.ofCode : Nat → Activity
  | 0 => .rest
  | 1 => .available
  | 2 => .work
  | 3 => .drive
  | _ => .unknown

def Source.code : Source → Nat
  | .none => 0
  | .tacho => 1
  | .presence => 2
  | .implied => 3

/-- The source of a code; see `Activity.ofCode`. -/
def Source.ofCode : Nat → Source
  | 1 => .tacho
  | 2 => .presence
  | 3 => .implied
  | _ => .none

def PanelState.code : PanelState → Nat
  | .undriven => 0
  | .allOn => 1
  | .composed => 2

def FieldState.code : FieldState → Nat
  | .off => 0
  | .invalid => 1
  | .shown => 2
  | .overrange => 3
  | .noData => 4

def Discard.code : Discard → Nat
  | .none => 0
  | .ragged => 1
  | .length => 2
  | .protectedByte => 3
  | .outside => 4
  | .notReady => 5

def Kind.code : Kind → Nat
  | .odo => 0
  | .cal => 1
  | .snap => 2
  | .sets => 3

/-! ### Results of orders (09_orders.md) -/

def resDone : Byte := 0x00
def resPending : Byte := 0x01
def resRefusedState : Byte := 0x02
def resRefusedLocked : Byte := 0x03
def resBadArgument : Byte := 0x04
def resUnknownOrder : Byte := 0x05
def resFailed : Byte := 0x06
def resBusy : Byte := 0x07

def detMoving : Nat := 1
def detStandby : Nat := 2
def detNotNormal : Nat := 3
def detLineAlive : Nat := 4
def detNoSlot : Nat := 1
def detVerify : Nat := 2

/-! ### General and speed sections (R2, R198) -/

/-- The proof time in µs (R198): 1–5 s, default 3 s. -/
def proofTime (s : State) : Nat := inRange 1 5 3 (hostByte s 0x400).toNat * 1000000

/-- Edge select (R4): 0 OFF, 1 FALLING, 2 RISING, 3 BOTH; default RISING. -/
def edgeSelect (s : State) : Nat := inRange 0 3 2 (hostByte s 0x420).toNat

/-- A transition of the SPEED input qualifies (R4). -/
def edgeQualifies (s : State) (rising : Bool) : Bool :=
  edgeSelect s == 3 || (edgeSelect s == 2 && rising) || (edgeSelect s == 1 && !rising)

def minGap (s : State) : Nat := inRange 10 2000 50 (host16 s 0x422)
/-- The gate time G in µs. -/
def gateTime (s : State) : Nat := inRange 20 500 100 (host16 s 0x424) * 1000
/-- The stall window in µs. -/
def stallWindow (s : State) : Nat := inRange 100 3000 1200 (host16 s 0x426) * 1000
/-- The jump limit J. -/
def jumpLimit (s : State) : Nat := inRange 100 10000 3000 (host16 s 0x428)
/-- The overspeed threshold: 0 is off, and 1–99 are out of range. -/
def overspeedThreshold (s : State) : Nat :=
  if host16 s 0x42A = 0 then 0 else inRange 100 25000 9000 (host16 s 0x42A)
/-- The motion confirm time in µs. -/
def motionConfirm (s : State) : Nat := inRange 1 10 2 (hostByte s 0x42C).toNat * 1000000
def recordStep (s : State) : Nat := inRange 10 1000 100 (host16 s 0x42E)

/-! ### Gauge sections (R25) -/

/-- The base of the section of channel c. -/
def gaugeBase (c : Fin 8) : Nat := 0x440 + 64 * c.val

def sourceOfCode : Nat → GaugeSource
  | 1 => .speed
  | 2 => .host
  | _ => .off

def gaugeSource (s : State) (c : Fin 8) : GaugeSource := sourceOfCode (hostByte s (gaugeBase c)).toNat
def dampingShift (s : State) (c : Fin 8) : Nat := inRange 0 6 3 (hostByte s (gaugeBase c + 1)).toNat
def sweepLimit (s : State) (c : Fin 8) : Nat := inRange 60 3780 3240 (host16 s (gaugeBase c + 2))
def vMax (s : State) (c : Fin 8) : Nat := inRange 1 48 24 (hostByte s (gaugeBase c + 4)).toNat
def homingSpeed (s : State) (c : Fin 8) : Nat := inRange 1 8 4 (hostByte s (gaugeBase c + 5)).toNat
def homeOverrun (s : State) (c : Fin 8) : Nat := inRange 0 480 120 (host16 s (gaugeBase c + 6))
def sweepOnProof (s : State) (c : Fin 8) : Bool := bit (hostByte s (gaugeBase c + 8)) 0
def stallSense (s : State) (c : Fin 8) : Bool := bit (hostByte s (gaugeBase c + 8)) 1
/-- The warning mode: 0 NONE, 1 LOW, 2 HIGH, 3 BOTH. -/
def warningMode (s : State) (c : Fin 8) : Nat := inRange 0 3 0 (hostByte s (gaugeBase c + 9)).toNat
def warningTag (s : State) (c : Fin 8) : Nat := inRange 0 7 0 (hostByte s (gaugeBase c + 10)).toNat
def pointCount (s : State) (c : Fin 8) : Nat := (hostByte s (gaugeBase c + 11)).toNat
/-- The freshness time in µs; 0 is off. -/
def freshness (s : State) (c : Fin 8) : Nat :=
  if host16 s (gaugeBase c + 12) = 0 then 0 else inRange 100 5000 1000 (host16 s (gaugeBase c + 12)) * 1000
def thresholdL (s : State) (c : Fin 8) : Nat := host16 s (gaugeBase c + 14)
def thresholdH (s : State) (c : Fin 8) : Nat := host16 s (gaugeBase c + 16)
def hysteresis (s : State) (c : Fin 8) : Nat := host16 s (gaugeBase c + 18)
/-- Point i of the calibration table. -/
def pointX (s : State) (c : Fin 8) (i : Nat) : Nat := host16 s (gaugeBase c + 20 + 4 * i)
def pointA (s : State) (c : Fin 8) (i : Nat) : Nat := host16 s (gaugeBase c + 22 + 4 * i)

/-- Which settings with a range are out of it (R25), one by one. -/
def badSource (s : State) (c : Fin 8) : Bool := outOf 0 2 (hostByte s (gaugeBase c)).toNat
def badShift (s : State) (c : Fin 8) : Bool := outOf 0 6 (hostByte s (gaugeBase c + 1)).toNat
def badLimit (s : State) (c : Fin 8) : Bool := outOf 60 3780 (host16 s (gaugeBase c + 2))
def badVMax (s : State) (c : Fin 8) : Bool := outOf 1 48 (hostByte s (gaugeBase c + 4)).toNat
def badHomingSpeed (s : State) (c : Fin 8) : Bool := outOf 1 8 (hostByte s (gaugeBase c + 5)).toNat
def badOverrun (s : State) (c : Fin 8) : Bool := outOf 0 480 (host16 s (gaugeBase c + 6))
def badMode (s : State) (c : Fin 8) : Bool := outOf 0 3 (hostByte s (gaugeBase c + 9)).toNat
def badTag (s : State) (c : Fin 8) : Bool := outOf 0 7 (hostByte s (gaugeBase c + 10)).toNat
def badFreshness (s : State) (c : Fin 8) : Bool :=
  host16 s (gaugeBase c + 12) != 0 && outOf 100 5000 (host16 s (gaugeBase c + 12))

/-- At least one setting of the section that has a range is out of it (R25). -/
def anyBad (s : State) (c : Fin 8) : Bool :=
  badSource s c || badShift s c || badLimit s c || badVMax s c || badHomingSpeed s c ||
    badOverrun s c || badMode s c || badTag s c || badFreshness s c

/-! ### Cause settings, urgency map, chimes, lamps (R52, R53, R62, R71) -/

def causeBase (n : Fin 53) : Nat := 0x640 + 4 * n.val

/-- A lamp number, or none from 48 up. -/
def lampOfByte (b : Byte) : Option (Fin 48) := if h : b.toNat < 48 then some ⟨b.toNat, h⟩ else none

def causeLamp (s : State) (n : Fin 53) : Option (Fin 48) := lampOfByte (hostByte s (causeBase n))
def causeTag (s : State) (n : Fin 53) : Nat := inRange 0 7 0 (hostByte s (causeBase n + 1)).toNat
/-- The latch is UNTIL_ACK. -/
def causeLatched (s : State) (n : Fin 53) : Bool := field (hostByte s (causeBase n + 2)) 0 2 == 1

def LampPattern.ofCode : Nat → LampPattern
  | 1 => .slow
  | 2 => .fast
  | 3 => .flash
  | _ => .steady

def causePattern (s : State) (n : Fin 53) : LampPattern :=
  LampPattern.ofCode (field (hostByte s (causeBase n + 2)) 4 3)
def causeChimeOn (s : State) (n : Fin 53) : Bool := bit (hostByte s (causeBase n + 3)) 7
def causeChime (s : State) (n : Fin 53) : Nat := field (hostByte s (causeBase n + 3)) 0 3

/-- The default class of an urgency tag (R53). -/
def defaultClass (tag : Nat) : Nat := 3 - tag / 2

/-- The urgency map (R53): the class of a tag. -/
def urgencyClass (s : State) (tag : Nat) : Nat :=
  inRange 0 3 (defaultClass tag) (hostByte s (0x740 + tag)).toNat

/-- The divider of a div code (R209). -/
def divOfCode : Nat → Nat
  | 0 => 1
  | 1 => 2
  | 2 => 4
  | _ => 8

/-- The default of tone 1 (R71): 2,000 Hz. -/
def defaultTone : Tone := ⟨2, 124⟩

/-- The tone 1 field of a chime pattern: its div code and N (R71, R209). A div out of range puts the field at its default. -/
def tone1Of (code n : Nat) : Tone := if code ≤ 3 then ⟨divOfCode code, n⟩ else defaultTone

/-- Chime pattern p, every out-of-range field at its default (R71). -/
def chimePattern (s : State) (p : Nat) : ChimePattern :=
  let a := 0x748 + 9 * p
  { tone1 := tone1Of (hostByte s a).toNat (hostByte s (a + 1)).toNat
    tone2 :=
      if bit (hostByte s (a + 2)) 7 then
        some ⟨divOfCode (field (hostByte s (a + 2)) 0 2), (hostByte s (a + 3)).toNat⟩
      else none
    onTime := inRange 1 255 20 (hostByte s (a + 4)).toNat
    offTime := (hostByte s (a + 5)).toNat
    repeats := inRange 0 15 3 (hostByte s (a + 6)).toNat }

def lampBase (l : Fin 48) : Nat := 0x790 + 2 * l.val

/-- The fallback of lamp l. The lamp's own number is treated as none (R62). -/
def lampFallback (s : State) (l : Fin 48) : Option (Fin 48) :=
  match lampOfByte (hostByte s (lampBase l)) with
  | some k => if k = l then none else some k
  | none => none
def lampProof (s : State) (l : Fin 48) : Bool := bit (hostByte s (lampBase l + 1)) 0
def lampProofHold (s : State) (l : Fin 48) : Bool := bit (hostByte s (lampBase l + 1)) 1

/-! ### The drive-time profile (R96) -/

/-- The profile as DTU uses it. -/
structure Profile where
  contLimit : Nat
  lead : Nat
  fullBreak : Nat
  splitFirst : Nat
  splitSecond : Nat
  dailyLimit : Nat
  extendedLimit : Nat
  extensions : Nat
  restAndAvailable : Bool
  dailyRest : Nat
  weeklyRest : Nat
  weeklyLimit : Nat
  implied : Bool
  deriving DecidableEq, Repr

/-- Every field at its default. -/
def Profile.defaults : Profile where
  contLimit := 270
  lead := 15
  fullBreak := 45
  splitFirst := 15
  splitSecond := 30
  dailyLimit := 540
  extendedLimit := 600
  extensions := 2
  restAndAvailable := false
  dailyRest := 660
  weeklyRest := 2700
  weeklyLimit := 3360
  implied := true

/-- The profile as the settings area holds it. -/
def profileAsWritten (s : State) : Profile where
  contLimit := host16 s 0x7F0
  lead := host16 s 0x7F2
  fullBreak := host16 s 0x7F4
  splitFirst := host16 s 0x7F6
  splitSecond := host16 s 0x7F8
  dailyLimit := host16 s 0x7FA
  extendedLimit := host16 s 0x7FC
  extensions := (hostByte s 0x7FE).toNat
  restAndAvailable := (hostByte s 0x7FF).toNat == 1
  dailyRest := host16 s 0x800
  weeklyRest := host16 s 0x802
  weeklyLimit := host16 s 0x804
  implied := (hostByte s 0x806).toNat == 1

/-- A profile's numbers lie in their ranges and satisfy the four relations of R96. -/
def Profile.inOrder (p : Profile) : Bool :=
  decide (1 ≤ p.contLimit ∧ p.contLimit ≤ 1440) && decide (p.lead ≤ 120) &&
  decide (1 ≤ p.fullBreak ∧ p.fullBreak ≤ 1440) && decide (1 ≤ p.splitFirst ∧ p.splitFirst ≤ 1440) &&
  decide (1 ≤ p.splitSecond ∧ p.splitSecond ≤ 1440) && decide (1 ≤ p.dailyLimit ∧ p.dailyLimit ≤ 1440) &&
  decide (1 ≤ p.extendedLimit ∧ p.extendedLimit ≤ 1440) && decide (p.extensions ≤ 7) &&
  decide (1 ≤ p.dailyRest ∧ p.dailyRest ≤ 4320) && decide (1 ≤ p.weeklyRest ∧ p.weeklyRest ≤ 10080) &&
  decide (1 ≤ p.weeklyLimit ∧ p.weeklyLimit ≤ 10080) &&
  decide (p.splitFirst < p.fullBreak) && decide (p.splitSecond ≤ p.fullBreak) &&
  decide (p.fullBreak ≤ p.dailyRest ∧ p.dailyRest ≤ p.weeklyRest) && decide (p.dailyLimit ≤ p.extendedLimit)

/-- The profile is valid (R96). -/
def profileValid (s : State) : Bool :=
  (profileAsWritten s).inOrder && decide ((hostByte s 0x7FF).toNat ≤ 1 ∧ (hostByte s 0x806).toNat ≤ 1)

/-- The profile in use. -/
def profile (s : State) : Profile := if profileValid s then profileAsWritten s else Profile.defaults

/-- The snapshot interval in µs (R96, R118). -/
def snapshotInterval (s : State) : Nat :=
  (if profileValid s then inRange 5 240 30 (hostByte s 0x807).toNat else 30) * 60000000

/-- The line timeout of the power state in force, in µs (R90). -/
def lineTimeout (s : State) : Nat :=
  (if inStandby s then (if profileValid s then inRange 10 600 120 (host16 s 0x809) else 120)
   else if profileValid s then inRange 1 60 5 (hostByte s 0x808).toNat else 5) * 1000000

end Sys2Proof.Machine
end

