-- ==== Sys2Proof/Machine/Flags.lean ====
section
/-! DEFINITION. The flags and counts that are computed from the state: the attention state (R176), the link status
byte (R168), the class counts (R57), NVS's header state (R163) and the backlog bitmap (R177). -/

namespace Sys2Proof.Machine

/-- Bit k of the attention mask (R176, R204). -/
def maskBit (s : State) (k : Nat) : Bool := host16 s 0xC0 / 2 ^ k % 2 == 1

/-- The attention state (R176): a filled slot holds a kind the mask asks for, or the backlog is not empty. -/
def attention (s : State) : Bool :=
  !s.lnk.backlog.isEmpty ||
    (List.finRange 32).any fun j => slotFilled s j && maskBit s s.lnk.journal[j].kind.code

/-- The link status byte (R168, R203): bit 0 READY, 1 STANDBY, 2 ATTN, 3 LOW, 4–6 the DISCARD reason. -/
def linkStatus (s : State) : Byte :=
  u8 (flag (!inLoading s) + 2 * flag (inStandby s) + 4 * flag (attention s) + 8 * flag s.psc.low +
    16 * s.lnk.discard.code)

/-- The causes in ACTIVE, ACKED or HELD of a class (R57). -/
def classCount (s : State) (k : Nat) : Nat :=
  (List.finRange 53).countP fun n => (s.causeOf n).state != .clear && (s.causeOf n).cls == k

/-- The number of lamps with OPEN set (R79). -/
def openCount (s : State) : Nat := (List.finRange 48).countP fun l => s.ttu.lamps[l].isOpen

/-- The fault set is not empty (R157). -/
def FaultSet.any (f : FaultSet) : Bool := f.odo || f.cal || f.snap || f.sets

/-- NVS's state in the header (R163): 0 IDLE, 1 BUSY, 2 FAULT. -/
def nvsHeader (s : State) : Nat :=
  if s.nvs.faults.any then 2 else if s.nvs.flight = .none then 0 else 1

/-- The backlog kind bitmap (R177). -/
def backlogBitmap (s : State) : Nat := (s.lnk.backlog.map fun e => 2 ^ e.kind.code).sum

/-- The sounder mirror's reason not free (R79): 0 none, 1 PROOF, 2 LOW, 3 STANDBY. -/
def reasonNotFree (s : State) : Nat :=
  if inStandby s then 3 else if s.psc.power = .proof then 1 else if s.psc.low then 2 else 0

/-- Whole 100 ms units since the last valid frame, saturating, and 65,535 while there is none (R94). -/
def sinceFrame (s : State) : Nat :=
  match s.tlr.lastFrame with
  | some (t, _) => min 65535 ((s.now - t) / 100000)
  | none => 65535

end Sys2Proof.Machine
end

