-- ==== Sys2Proof/Machine/Causes.lean ====
section
/-! DEFINITION. TTU's shared operations: the cause state machine, lamp evaluation, the chime queue and the sounder
(03_causes_telltales_and_the_sounder.md). -/

namespace Sys2Proof.Machine

/-! ### Lamps (R63–R65, R68, R69) -/

/-- The phases in which a pattern's output is on (R63). -/
def patternOn (p : LampPattern) (phase : Nat) : Bool :=
  match p with
  | .steady => true
  | .slow => decide (phase < 4)
  | .fast => phase % 2 == 0
  | .flash => phase == 0

/-- A lit cause, as lamps see it. -/
structure LitCause where
  lamp : Option (Fin 48)
  cls : Nat
  pattern : LampPattern
  deriving DecidableEq, Repr

/-- The causes in ACTIVE, ACKED or HELD, in ascending cause number, with the settings a lamp evaluation reads. -/
def litCauses (s : State) : List LitCause :=
  ((List.finRange 53).filter fun n => (s.causeOf n).state != .clear).map fun n =>
    { lamp := causeLamp s n, cls := (s.causeOf n).cls, pattern := causePattern s n }

/-- A lit cause belongs to the lighting set of lamp l (R64): it maps to l, or to an OPEN lamp whose fallback l is. -/
def lights (s : State) (l : Fin 48) (c : LitCause) : Bool :=
  match c.lamp with
  | none => false
  | some k => k == l || (s.ttu.lamps[k].isOpen && lampFallback s k == some l)

/-- The most urgent of a list, the first of equals (R64). -/
def mostUrgent : List LitCause → Option LitCause
  | [] => none
  | c :: cs =>
      match mostUrgent cs with
      | none => some c
      | some d => if c.cls ≤ d.cls then some c else some d

/-- Whether lamp l is lit and in which pattern (R64, R68, R69); none is not lit. -/
def lampCall (s : State) (cs : List LitCause) (l : Fin 48) : Option LampPattern :=
  if !inRun s then none
  else if s.ttu.lampTest.isSome then some .steady
  else if s.ttu.lamps[l].hold || (s.psc.power == .proof && lampProof s l) then some .steady
  else (mostUrgent (cs.filter (lights s l))).map LitCause.pattern

/-- One lamp at a lamp evaluation (R65). A lamp that goes from lit to not lit sets its open run to 0.
DEDUCED: log entry 19. -/
def evalLamp (s : State) (cs : List LitCause) (l : Fin 48) (x : Lamp) : Lamp :=
  match lampCall s cs l with
  | some p => { x with lit := true, pattern := p, output := patternOn p s.ttu.blink }
  | none => { x with lit := false, output := false, openRun := if x.lit then 0 else x.openRun }

/-- The lamp evaluation of every lamp (R65). -/
def lampEvaluation (s : State) : State :=
  let cs := litCauses s
  s.setTtu { s.ttu with lamps := vmap (evalLamp s cs) s.ttu.lamps }

/-! ### The chime queue (R72) -/

/-- Arrival number a is later than b (R72): a 32-bit serial comparison. -/
def laterArrival (a b : Nat) : Bool :=
  let d := (a + 4294967296 - b % 4294967296) % 4294967296
  decide (1 ≤ d ∧ d ≤ 2147483647)

/-- Request r stands before q: a more urgent class, or the same class and an earlier arrival. -/
def standsBefore (r q : Request) : Bool :=
  decide (r.cls < q.cls) || (r.cls == q.cls && laterArrival q.arrival r.arrival)

/-- A request placed at its position. -/
def placeRequest (r : Request) : List Request → List Request
  | [] => [r]
  | q :: qs => if standsBefore r q then r :: q :: qs else q :: placeRequest r qs

/-- Insertion (R72): of 17 requests the last is removed, and its cause's chime-dropped flag is set. -/
def insertRequest (r : Request) (s : State) : State :=
  let q := placeRequest r s.ttu.queue
  let s' := s.setTtu { s.ttu with queue := q.take 16 }
  match q[16]? with
  | some last => s'.setCause last.cause { s'.causeOf last.cause with dropped := true }
  | none => s'

/-! ### The sounder (R73–R75) -/

/-- The silence after a chime stops or completes. -/
def silenceTime : Nat := 100000

/-- The sounder is free (R73). -/
def sounderFree (s : State) : Bool :=
  s.ttu.playing.isNone && s.ttu.silence.isNone && inNormal s && !s.psc.low

/-- The head of the queue starts playing whenever the sounder is free (R73). -/
def chimeStart (s : State) : State :=
  match s.ttu.queue with
  | [] => s
  | q :: qs =>
      if sounderFree s then
        let p := chimePattern s q.pattern
        s.setTtu { s.ttu with
          queue := qs
          playing := some { request := q, pattern := p, onCount := 1, isOn := true
                            endsAt := s.now + 10000 * p.onTime } }
      else s

/-- The playing chime stops and the silence timer starts (R73, R75). -/
def stopPlaying (s : State) : State :=
  s.setTtu { s.ttu with playing := none, silence := some (s.now + silenceTime) }

/-- The playing chime stops and its request returns to the queue (R74, R76). -/
def returnPlaying (s : State) : State :=
  match s.ttu.playing with
  | none => s
  | some p => insertRequest p.request (stopPlaying s)

/-- A new chime request of a cause (R72) with pre-emption (R74). DEDUCED: log entry 15. -/
def newRequest (n : Fin 53) (s : State) : State :=
  let r : Request :=
    { cause := n, cls := (s.causeOf n).cls, arrival := s.ttu.arrival, pattern := causeChime s n }
  let s := s.setTtu { s.ttu with arrival := (s.ttu.arrival + 1) % 4294967296 }
  let s := insertRequest r s
  let s :=
    match s.ttu.playing with
    | some p => if r.cls < p.request.cls then returnPlaying s else s
    | none => s
  chimeStart s

/-- The request of a cause that leaves ACTIVE is removed, from the queue or from the sounder (R55, R56, R75). -/
def removeRequest (n : Fin 53) (s : State) : State :=
  let s := s.setTtu { s.ttu with queue := s.ttu.queue.filter fun r => r.cause != n }
  match s.ttu.playing with
  | some p => if p.request.cause = n then stopPlaying s else s
  | none => s

/-! ### The cause state machine (R54–R57) -/

/-- Why a cause changed (R57, R206). -/
inductive ChangeReason
  | raise | clear | ackButton | ackOrder | standby
  deriving DecidableEq, Repr

def ChangeReason.code : ChangeReason → Nat
  | .raise => 0
  | .clear => 1
  | .ackButton => 2
  | .ackOrder => 3
  | .standby => 4

/-- A change of a cause's state posts a CAUSE_CHANGE record (R57). -/
def changeCause (n : Fin 53) (new : CauseState) (why : ChangeReason) (s : State) : State :=
  let c := s.causeOf n
  post .causeChange
    [u8 n.val, u8 new.code, u8 c.state.code, u8 c.cls, c.argument, u8 why.code]
    (s.setCause n { c with state := new })

/-- A raise enters ACTIVE (R54): the class is latched from the tag, the chime-dropped flag cleared, the argument
set, and a chime request made when chime enable is on. -/
def enterActive (n : Fin 53) (tag : Nat) (argument : Byte) (s : State) : State :=
  let c := s.causeOf n
  let s := s.setCause n { c with cls := urgencyClass s tag, dropped := false, argument := argument }
  let s := changeCause n .active .raise s
  let s := if causeChimeOn s n then newRequest n s else s
  lampEvaluation s

/-- A raise of cause n (R54): with a tag of its own (host causes, causes 32–39) or the setting's, and with a host
cause's argument. It acts in RUN. -/
def raiseCause (n : Fin 53) (tag : Option Nat) (argument : Option Byte) (s : State) : State :=
  if inRun s then
    match (s.causeOf n).state with
    | .clear | .held => enterActive n (tag.getD (causeTag s n)) (argument.getD 0) s
    | .active | .acked =>
        match argument with
        | some b => s.setCause n { s.causeOf n with argument := b }
        | none => s
  else s

/-- A clear of cause n (R55). It acts in RUN. -/
def clearCause (n : Fin 53) (s : State) : State :=
  if inRun s then
    match (s.causeOf n).state with
    | .active =>
        lampEvaluation
          (removeRequest n (changeCause n (if causeLatched s n then .held else .clear) .clear s))
    | .acked => lampEvaluation (changeCause n .clear .clear s)
    | .clear | .held => s
  else s

/-- An acknowledge of cause n (R56). It acts in RUN. -/
def acknowledgeCause (why : ChangeReason) (n : Fin 53) (s : State) : State :=
  if inRun s then
    match (s.causeOf n).state with
    | .active =>
        if (s.causeOf n).cls = 0 then s
        else lampEvaluation (removeRequest n (changeCause n .acked why s))
    | .held => lampEvaluation (changeCause n .clear why s)
    | .clear | .acked => s
  else s

/-- An assertion of a block: raised when it goes from clear to set, cleared when it goes from set to clear. -/
def sendAssertion (n : Fin 53) (tag : Option Nat) (was isNow : Bool) (s : State) : State :=
  if !was && isNow then raiseCause n tag none s
  else if was && !isNow then clearCause n s
  else s

/-! ### Lamp faults (R66, R67) -/

/-- The lamp fault assertion is re-evaluated (R67). -/
def evalLampFault (s : State) : State :=
  let was := s.ttu.lampFault
  let isNow := s.ttu.lamps.toList.any Lamp.isOpen
  sendAssertion 52 none was isNow (s.setTtu { s.ttu with lampFault := isNow })

/-- The fallback byte of a LAMP_FAULT record: the fallback in effect, FFh for none (R66, R206). -/
def fallbackByte (s : State) (l : Fin 48) : Byte :=
  match lampFallback s l with
  | some k => u8 k.val
  | none => 0xFF

/-- One reading of lamp l (R66). -/
def readLamp (isOpen : Bool) (l : Fin 48) (s : State) : State :=
  let x := s.ttu.lamps[l]
  if !isOpen then s.setTtu { s.ttu with lamps := vset s.ttu.lamps l { x with openRun := 0 } }
  else if x.openRun + 1 < 3 then
    s.setTtu { s.ttu with lamps := vset s.ttu.lamps l { x with openRun := x.openRun + 1 } }
  else
    let s := s.setTtu { s.ttu with lamps := vset s.ttu.lamps l { x with openRun := 0, isOpen := true } }
    let s := post .lampFault [u8 l.val, fallbackByte s l, u8 (openCount s)] s
    evalLampFault (lampEvaluation s)

/-- The lamp diagnostic sample (R66): the lamps read are those whose output is on and whose OPEN flag is clear as the
sample is taken, in ascending lamp number (DESIGN CHOICE: log entry 37). The remaining test time is written (R79), in
whole ms rounded down (DESIGN CHOICE: log entry 50). -/
def lampSample (openLamps : List (Fin 48)) (s : State) : State :=
  let reads := (List.finRange 48).filter fun l => s.ttu.lamps[l].output && !s.ttu.lamps[l].isOpen
  let s := reads.foldl (fun s l => readLamp (decide (l ∈ openLamps)) l s) s
  match s.ttu.lampTest with
  | some e => s.setTtu { s.ttu with testLeft := (e - s.now) / 1000 }
  | none => s

/-! ### Takes, acknowledges and the lamp test (R58–R60, R68, R69) -/

/-- A host cause's number among the 53. -/
def hostCause (n : Fin 32) : Fin 53 := ⟨n.val, by omega⟩

/-- The lamp named by cause n's lamp setting leaves the proof-hold set, if it is a member (R68): a change of the set, at
which the lamps are evaluated (R65). -/
def releaseHold (n : Fin 53) (s : State) : State :=
  match causeLamp s n with
  | some l =>
      if s.ttu.lamps[l].hold then
        lampEvaluation (s.setTtu { s.ttu with lamps := vset s.ttu.lamps l { s.ttu.lamps[l] with hold := false } })
      else s
  | none => s

/-- The take of host cause record n (R58). In STANDBY it stores the fields that R58's table names for RUN, so that a request 0
keeps the stored tag and argument (DESIGN CHOICE: log entry 54). -/
def takeHostCause (n : Fin 32) (s : State) : State :=
  let a := 0x100 + 4 * n.val
  let request := (hostByte s (a + 1)).toNat
  let tag := (hostByte s (a + 2)).toNat % 8
  let argument := hostByte s (a + 3)
  let s := s.setLnk { s.lnk with causeEcho := vset s.lnk.causeEcho n (hostByte s a) }
  let s :=
    if request = 1 then
      raiseCause (hostCause n) (some tag) (some argument)
        (s.setTtu { s.ttu with hostRecords := vset s.ttu.hostRecords n ⟨true, tag, argument⟩ })
    else if request = 0 then
      clearCause (hostCause n)
        (s.setTtu { s.ttu with
          hostRecords := vset s.ttu.hostRecords n { s.ttu.hostRecords[n] with raise := false } })
    else s
  if inRun s then releaseHold (hostCause n) s else s

/-- Every HELD cause is acknowledged, in ascending cause number (R59). -/
def acknowledgeHeld (why : ChangeReason) (s : State) : State :=
  ((List.finRange 53).filter fun n => (s.causeOf n).state == .held).foldl
    (fun s n => acknowledgeCause why n s) s

/-- A press of the ACK button in RUN (R59). -/
def ackPressed (s : State) : State :=
  if inRun s then
    match s.ttu.playing with
    | some p => if p.request.cls = 0 then s else acknowledgeCause .ackButton p.request.cause s
    | none => acknowledgeHeld .ackButton s
  else s

/-- An acknowledge of cause n would change its state (R56). -/
def acknowledgeable (s : State) (n : Fin 53) : Bool :=
  inRun s && match (s.causeOf n).state with
    | .active => (s.causeOf n).cls != 0
    | .held => true
    | .clear | .acked => false

/-- The ACKNOWLEDGE order in TTU (R60) and the number of causes whose state changed. FFh acknowledges every
acknowledgeable cause, in ascending cause number. -/
def orderAcknowledge (cause : Nat) (s : State) : Nat × State :=
  let named := (List.finRange 53).filter fun n => (cause == 255 || n.val == cause) && acknowledgeable s n
  (named.length, named.foldl (fun s n => acknowledgeCause .ackOrder n s) s)

/-- A LAMP TEST of a duration in s reaches TTU (R69). -/
def startLampTest (seconds : Nat) (s : State) : State :=
  let s := s.setTtu { s.ttu with
    lamps := vmap (fun _ x => { x with isOpen := false, openRun := 0 }) s.ttu.lamps }
  let s := evalLampFault s
  let s := s.setTtu { s.ttu with
    lampTest := some (s.now + 1000000 * seconds), testLeft := 1000 * seconds }
  lampEvaluation s

/-- The lamp test's end time (R69). -/
def endLampTest (s : State) : State :=
  lampEvaluation (s.setTtu { s.ttu with lampTest := none, testLeft := 0 })

/-! ### Chime periods (R71, R75) -/

/-- The end of a period of the playing chime. An off time of 0 joins the on-periods. -/
def endChimePeriod (p : Playing) (s : State) : State :=
  let nextOn : Playing :=
    { p with onCount := p.onCount + 1, isOn := true, endsAt := s.now + 10000 * p.pattern.onTime }
  if p.isOn then
    if p.pattern.repeats ≠ 0 ∧ p.pattern.repeats ≤ p.onCount then stopPlaying s
    else if p.pattern.offTime = 0 then s.setTtu { s.ttu with playing := some nextOn }
    else s.setTtu { s.ttu with
      playing := some { p with isOn := false, endsAt := s.now + 10000 * p.pattern.offTime } }
  else s.setTtu { s.ttu with playing := some nextOn }

/-! ### Power transitions (R76–R78) -/

/-- TTU at RUN entry (R77). -/
def ttuRunEntry (s : State) : State :=
  let s := s.setTtu { s.ttu with
    blink := 0, lamps := vmap (fun l x => { x with hold := lampProofHold s l }) s.ttu.lamps }
  let isNow := s.ttu.lamps.toList.any Lamp.isOpen
  let s := s.setTtu { s.ttu with lampFault := isNow }
  let s := if isNow then raiseCause 52 none none s else s
  lampEvaluation s

/-- TTU at STANDBY entry (R78). -/
def ttuStandbyEntry (s : State) : State :=
  let s := ((List.finRange 53).filter fun n => (s.causeOf n).state != .clear).foldl
    (fun s n => changeCause n .clear .standby s) s
  s.setTtu { s.ttu with
    queue := [], playing := none, silence := none, lampTest := none, testLeft := 0, lampFault := false
    lamps := vmap (fun _ x => { x with lit := false, output := false, openRun := 0, hold := false }) s.ttu.lamps }

end Sys2Proof.Machine
end

