-- ==== Sys2Proof/Machine/Store.lean ====
section
/-! DEFINITION. NVS's request set and the start of its operations, with the order logic's answers, arming and
completions that its reports call for (07_non_volatile_store.md, R141–R158; 09_orders.md, R180, R181). -/

namespace Sys2Proof.Machine

/-! ### Answers of the order logic (R180, R181) -/

/-- The address of order slot k. -/
def orderAddr (k : Fin 8) : Nat := 0x40 + 16 * k.val

/-- The stamp of order slot k. -/
def orderStamp (s : State) (k : Fin 8) : Byte := hostByte s (orderAddr k)

/-- An answer given at once: the result, the detail and the echo equal to the stamp (R180). -/
def answerOrder (k : Fin 8) (result : Byte) (detail : Nat) (s : State) : State :=
  s.setOrderSlot k { progress := .idle, echo := orderStamp s k, result := result, detail := detail }

/-- A long order that passed its checks: PENDING, detail 0, the echo unchanged (R180). -/
def beginOrder (k : Fin 8) (p : Progress) (s : State) : State :=
  s.setOrderSlot k { s.orderSlot k with progress := p, result := resPending, detail := 0 }

/-- A long order completes (R181): the answer, and an ORDER_DONE record. -/
def completeOrder (k : Fin 8) (result : Byte) (detail : Nat) (s : State) : State :=
  post .orderDone
    ([u8 k.val, hostByte s (orderAddr k + 1), orderStamp s k, result] ++ le 2 detail)
    (answerOrder k result detail s)

/-- The slots whose progress is one of a list, in ascending order. -/
def slotsIn (s : State) (ps : List Progress) : List (Fin 8) :=
  (List.finRange 8).filter fun k => decide ((s.orderSlot k).progress ∈ ps)

/-- Every order whose progress is one of a list completes, in ascending slot number (R188). DESIGN CHOICE: log entry 37. -/
def completeAll (ps : List Progress) (result : Byte) (detail : Nat) (s : State) : State :=
  (slotsIn s ps).foldl (fun s k => completeOrder k result detail s) s

/-- Every order in one stage moves to another (R188, R191: arming at a program's start). -/
def moveOrders (old new : Progress) (s : State) : State :=
  s.setLnk { s.lnk with
    orders := vmap (fun _ o => if o.progress = old then { o with progress := new } else o) s.lnk.orders }

/-! ### The array (R141–R149) -/

/-- Every byte from `lo`, `k` of them, reads FFh. -/
def Memory.blank (m : Memory) (lo k : Nat) : Bool :=
  m.all fun c => !(decide (lo ≤ c.1) && decide (c.1 < lo + k)) || c.2 == 0xFF

def sectorBase (sec : Nat) : Nat := 4096 * sec
def odoAddr (i : Nat) : Nat := 0x2000 + 8 * i
def odoSector (i : Nat) : Nat := 2 + i / 512
def calAddr (r : Nat) : Nat := 0x1000 + 16 * r
def snapAddr (j : Nat) : Nat := 0xA000 + 256 * j
def snapSector (j : Nat) : Nat := 10 + j / 16

/-- The sector a slot of a kind lies in (R142). -/
def kindSector : Kind → Nat → Nat
  | .odo, i => odoSector i
  | .cal, _ => 1
  | .snap, j => snapSector j
  | .sets, _ => 0

/-- The 16-bit check of words whose sum is given (R144, R147, R150, R152). -/
def checkWord (sum : Nat) : Nat := 65535 - sum % 65536

/-- An odometer record (R144, R208). -/
def odoRecord (total sequence : Nat) : List Byte :=
  le 4 total ++ le 2 sequence ++ le 2 (checkWord (total % 65536 + total / 65536 + sequence))

/-- The lock's state code (R208). -/
def lockCode (locked : Bool) : Nat := if locked then 2 else 1

/-- A calibration record (R147, R208). DEDUCED: log entry 25. -/
def calRecord (c : CalContent) (sequence : Nat) : List Byte :=
  le 2 c.pulse ++ le 2 (lockCode c.locked) ++ le 2 sequence ++
    le 2 (checkWord (c.pulse + lockCode c.locked + sequence)) ++ List.replicate 8 0

/-- The sum of the 16-bit words of a run of bytes. -/
def wordSum : List Byte → Nat
  | a :: b :: bs => a.toNat + 256 * b.toNat + wordSum bs
  | _ => 0

/-- A slot's block of a snapshot record (R208), 32 bytes. -/
def snapDriver (d : Driver) : List Byte :=
  padTo 32 ([u8 (flag d.present), u8 (flag d.holderValid)] ++ le 4 d.holder ++
    [u8 d.activity.code, u8 d.source.code] ++ le 2 d.sinceDay ++ le 2 d.sinceMinute ++
    le 2 d.cd ++ le 2 d.dd ++ le 2 d.wd ++ le 2 d.br ++
    [u8 (flag d.firstPart), u8 (flag d.extended), u8 d.extensions])

/-- A snapshot record of the present content (R117, R150, R208), 256 bytes. DESIGN CHOICE: log entry 31. -/
def snapRecord (s : State) : List Byte :=
  let body := padTo 254
    (padTo 32 (padTo 16 (le 4 s.nvs.snapSeq ++ le 2 s.dtu.day ++ le 2 s.dtu.minute ++ [u8 s.dtu.second]) ++
      le 4 s.spd.tripA ++ le 4 s.spd.tripB) ++
    snapDriver (s.driver 0) ++ snapDriver (s.driver 1))
  body ++ le 2 (checkWord (wordSum body))

/-! ### Erase-ahead (R146) -/

/-- The sector that follows in the same ring. -/
def nextSector (sec : Nat) : Nat := if sec = 9 then 2 else if sec = 13 then 10 else sec + 1

def isDue (s : State) (sec : Nat) : Bool := s.nvs.due[Fin.ofNat 14 sec]

def setDue (sec : Nat) (b : Bool) (s : State) : State :=
  s.setNvs { s.nvs with due := vset s.nvs.due (Fin.ofNat 14 sec) b }

/-- A write pointer enters a sector: the next one of the ring is marked erase-due unless it is blank. -/
def enterSector (sec : Nat) (s : State) : State :=
  if Memory.blank s.nvs.array (sectorBase (nextSector sec)) 4096 then s else setDue (nextSector sec) true s

/-- The odometer write pointer moves to the next slot in ring order. -/
def advanceOdo (s : State) : State :=
  let i := (s.nvs.odoPtr + 1) % 4096
  let s' := s.setNvs { s.nvs with odoPtr := i }
  if odoSector i = odoSector s.nvs.odoPtr then s' else enterSector (odoSector i) s'

/-- The snapshot write pointer moves to the next record in ring order. -/
def advanceSnap (s : State) : State :=
  let j := (s.nvs.snapPtr + 1) % 64
  let s' := s.setNvs { s.nvs with snapPtr := j }
  if snapSector j = snapSector s.nvs.snapPtr then s' else enterSector (snapSector j) s'

/-! ### Store faults (R157) -/

/-- The store-fault assertion is re-evaluated. -/
def evalStoreFault (s : State) : State :=
  let was := s.nvs.storeFault
  let isNow := s.nvs.faults.any
  sendAssertion 50 none was isNow (s.setNvs { s.nvs with storeFault := isNow })

def FaultSet.put (f : FaultSet) (k : Kind) (b : Bool) : FaultSet :=
  match k with
  | .odo => { f with odo := b }
  | .cal => { f with cal := b }
  | .snap => { f with snap := b }
  | .sets => { f with sets := b }

/-- A kind joins or leaves the fault set. -/
def setFault (k : Kind) (b : Bool) (s : State) : State :=
  evalStoreFault (s.setNvs { s.nvs with faults := s.nvs.faults.put k b })

/-- The order stages that a report of a kind concerns (R188–R192). -/
def ordersOf : Kind → List Progress
  | .odo => [.presetArmed]
  | .cal => [.calibrating, .locking]
  | .snap => [.snapArmed]
  | .sets => [.saving]

/-- A request is dropped (R157): its kind joins the fault set, a STORE_FAULT record is posted, with the slot field 0 for SETS
(DESIGN CHOICE: log entry 52), and the orders it served complete FAILED. `noSlot` is the reason NO_SLOT of the full calibration
sector. DEDUCED: log entry 25. -/
def dropRequest (k : Kind) (slot : Nat) (noSlot : Bool) (s : State) : State :=
  let s := setFault k true s
  let s := post .storeFault
    ([u8 k.code, u8 (flag noSlot), u8 (kindSector k slot)] ++ le 2 slot) s
  completeAll (ordersOf k) resFailed (if noSlot then detNoSlot else detVerify) s

/-! ### Starting operations (R155, R156) -/

def eraseTime : Nat := 40000

/-- The time of a program of k bytes at 60 µs a word (R141). -/
def programTime (k : Nat) : Nat := 60 * (k / 4)

/-- A program starts, on its own or under an erase that it suspends. -/
def launch (under : Option EraseOp) (p : Prog) (s : State) : State :=
  s.setNvs { s.nvs with flight := match under with
    | none => .program p
    | some e => .suspended e p }

/-- The sector of an erase in flight. -/
def beingErased (s : State) (sec : Nat) : Bool :=
  match s.nvs.flight with
  | .erase e | .suspended e _ => e.sector == sec
  | .none | .program _ => false

/-- A program into a sector cannot start: it is erase-due or being erased (R155). -/
def sectorBusy (s : State) (sec : Nat) : Bool := isDue s sec || beingErased s sec

/-- The blank-slot test of R141 for an ODO: the pointer advances to a blank slot, or stops in a sector that is busy. -/
def seekOdo : Nat → State → State × Bool
  | 0, s => (s, false)
  | n + 1, s =>
      if sectorBusy s (odoSector s.nvs.odoPtr) then (s, false)
      else if Memory.blank s.nvs.array (odoAddr s.nvs.odoPtr) 8 then (s, true)
      else seekOdo n (advanceOdo s)

/-- Likewise for a SNAP. -/
def seekSnap : Nat → State → State × Bool
  | 0, s => (s, false)
  | n + 1, s =>
      if sectorBusy s (snapSector s.nvs.snapPtr) then (s, false)
      else if Memory.blank s.nvs.array (snapAddr s.nvs.snapPtr) 256 then (s, true)
      else seekSnap n (advanceSnap s)

/-- Likewise for a CAL: the first blank calibration record from r up, 256 when there is none. -/
def seekCal (m : Memory) : Nat → Nat → Nat
  | 0, r => r
  | n + 1, r =>
      if 256 ≤ r then 256 else if Memory.blank m (calAddr r) 16 then r else seekCal m n (r + 1)

/-- A pending ODO that can start does so: the total is the live odometer, the sequence the next one, which moves on;
every waiting preset is armed (R145, R191). -/
def tryOdo (under : Option EraseOp) (s : State) : State × Bool :=
  match s.nvs.odo with
  | none => (s, false)
  | some pd =>
      let (s, ok) := seekOdo 4097 s
      if ok then
        let p : Prog :=
          { kind := .odo, slot := s.nvs.odoPtr, addr := odoAddr s.nvs.odoPtr
            bytes := odoRecord s.spd.odometer s.nvs.odoSeq
            startedAt := s.now, endsAt := s.now + programTime 8
            failures := pd.failures, content := ⟨0, false⟩ }
        let s := s.setNvs { s.nvs with odo := none, odoSeq := (s.nvs.odoSeq + 1) % 65536 }
        (moveOrders .presetWaiting .presetArmed (launch under p s), true)
      else (s, false)

/-- A pending CAL starts (R148). With no slot left the request is removed and reported failed for lack of space; on a
retry that counts as a second failure (R157). DEDUCED: log entry 25. -/
def tryCal (under : Option EraseOp) (s : State) : State × Bool :=
  match s.nvs.cal with
  | none => (s, false)
  | some (c, pd) =>
      let r := seekCal s.nvs.array 257 s.nvs.calPtr
      let s := s.setNvs { s.nvs with calPtr := r, cal := none }
      if 256 ≤ r then
        if pd.failures = 0 then (completeAll (ordersOf .cal) resFailed detNoSlot s, false)
        else (dropRequest .cal pd.failedSlot true s, false)
      else
        let p : Prog :=
          { kind := .cal, slot := r, addr := calAddr r, bytes := calRecord c r
            startedAt := s.now, endsAt := s.now + programTime 16
            failures := pd.failures, content := c }
        (launch under p s, true)

/-- A pending SNAP that can start does so, with the content of this instant (R150); every waiting TAKE SNAPSHOT is
armed (R188). -/
def trySnap (s : State) : State × Bool :=
  match s.nvs.snap with
  | none => (s, false)
  | some pd =>
      let (s, ok) := seekSnap 65 s
      if ok then
        let p : Prog :=
          { kind := .snap, slot := s.nvs.snapPtr, addr := snapAddr s.nvs.snapPtr, bytes := snapRecord s
            startedAt := s.now, endsAt := s.now + programTime 256
            failures := pd.failures, content := ⟨0, false⟩ }
        let s := s.setNvs { s.nvs with snap := none, snapSeq := s.nvs.snapSeq + 1 }
        (moveOrders .snapWaiting .snapArmed (launch none p s), true)
      else (s, false)

/-- An erase starts and takes its full time. -/
def startErase (sec : Nat) (forSets : Bool) (failures : Nat) (s : State) : State :=
  s.setNvs { s.nvs with
    flight := .erase { sector := sec, forSets := forSets, failures := failures
                       startedAt := s.now, remaining := eraseTime } }

/-- The lowest-numbered due sector. -/
def lowestDue (s : State) : Option Nat := (List.range 14).find? (isDue s)

/-- The highest-priority request that can start starts (R155). While an ODO or a SNAP waits, the erase of its target
sector is served at its priority (DEDUCED: log entry 27). A SNAP passes a SETS that waits, also the SNAP of a STANDBY entry
(DEDUCED: log entry 51). -/
def startNext (s : State) : State :=
  let (s, ok) := tryOdo none s
  if ok then s
  else if s.nvs.odo.isSome then startErase (odoSector s.nvs.odoPtr) false 0 s
  else
    let (s, ok) := tryCal none s
    if ok then s
    else
      let (s, ok) := trySnap s
      if ok then s
      else if s.nvs.snap.isSome then startErase (snapSector s.nvs.snapPtr) false 0 s
      else
        match s.nvs.sets with
        | some pd => startErase 0 true pd.failures (s.setNvs { s.nvs with sets := none })
        | none =>
            match lowestDue s with
            | some sec => startErase sec false 0 s
            | none => s

/-- NVS may start an operation: its phase is ACTIVE and LOW is clear (R155, R158). -/
def mayStart (s : State) : Bool := s.nvs.active && !s.psc.low

/-- NVS starts what it can, when it is ready (R155). DEDUCED: log entry 27. -/
def nvsStart (s : State) : State :=
  if mayStart s && decide (s.nvs.flight = .none) then startNext s else s

/-- What is left of an erase that stops now (R156). -/
def EraseOp.stopped (e : EraseOp) (now : Nat) : EraseOp := { e with remaining := e.remaining - (now - e.startedAt) }

/-- A request that may break into an erase arrives (R156): `try` starts it under the erase if it can start. -/
def arrival (attempt : Option EraseOp → State → State × Bool) (s : State) : State :=
  if mayStart s then
    match s.nvs.flight with
    | .none => startNext s
    | .erase e => (attempt (some (e.stopped s.now)) s).1
    | .program _ | .suspended _ _ => s
  else s

/-- No operation is left but a suspended erase (R156): the next ODO or CAL that can start starts; otherwise the erase
resumes for its remaining time. -/
def resumeErase (e : EraseOp) (s : State) : State :=
  let s := s.setNvs { s.nvs with flight := .erase { e with startedAt := s.now } }
  if mayStart s then
    let (s, ok) := tryOdo (some e) s
    if ok then s else (tryCal (some e) s).1
  else s

/-! ### Placements (R154) -/

/-- An ODO request is placed: a pending one covers it. -/
def placeOdo (s : State) : State :=
  if s.nvs.odo.isSome then s
  else arrival tryOdo (s.setNvs { s.nvs with odo := some ⟨0, 0⟩ })

/-- A SNAP request is placed: a pending one covers it. -/
def placeSnap (s : State) : State :=
  if s.nvs.snap.isSome then s else nvsStart (s.setNvs { s.nvs with snap := some ⟨0, 0⟩ })

/-- The program in flight, suspended erases apart. -/
def programOf : Flight → Option Prog
  | .program p | .suspended _ p => some p
  | .none | .erase _ => none

/-- A CAL request is pending or its program is in flight (R148). -/
def calBusy (s : State) : Bool :=
  s.nvs.cal.isSome || (programOf s.nvs.flight).any fun p => p.kind == .cal

/-- A SETS request is pending or in flight, in either step (R153). -/
def setsBusy (s : State) : Bool :=
  s.nvs.sets.isSome || ((programOf s.nvs.flight).any fun p => p.kind == .sets) ||
    match s.nvs.flight with
    | .erase e | .suspended e _ => e.forSets
    | .none | .program _ => false

/-- A CAL request that is neither refused nor busy enters the set (R148). -/
def placeCal (c : CalContent) (s : State) : State :=
  arrival tryCal (s.setNvs { s.nvs with cal := some (c, ⟨0, 0⟩) })

/-- A SETS request that is not busy enters the set (R153). -/
def placeSets (s : State) : State := nvsStart (s.setNvs { s.nvs with sets := some ⟨0, 0⟩ })

end Sys2Proof.Machine
end

