-- ==== Sys2Proof/Machine/DriverTime.lean ====
section
/-! DEFINITION. DTU's shared operations: warnings, the resolution rule, cards and reports, the clock and the minute
event (05_driver_time_accounting.md). -/

namespace Sys2Proof.Machine

/-- The slot number, 1 or 2, of a driver index. -/
def slotNumber (i : Fin 2) : Nat := i.val + 1

/-- The other things a check of the profile does: the profile state is shown (R96). -/
def noteProfile (s : State) : State := s.setDtu { s.dtu with profileDefaulted := !profileValid s }

/-! ### Derived values, warnings and assertions (R103–R106) -/

/-- The daily limit in force (R103, R105). -/
def dailyLimitOf (p : Profile) (d : Driver) : Nat := if d.extended then p.extendedLimit else p.dailyLimit

/-- The derived values of a record (R103), each floored at 0. -/
def Driver.derive (p : Profile) (d : Driver) : Driver :=
  { d with
    remContinuous := p.contLimit - d.cd
    remDaily := dailyLimitOf p d - d.dd
    remWeekly := p.weeklyLimit - d.wd
    remBreak := if d.cd = 0 then 0 else (if d.firstPart then p.splitSecond else p.fullBreak) - d.br }

/-- The derived values of one record are computed. -/
def deriveSlot (i : Fin 2) (s : State) : State := s.setDriver i ((s.driver i).derive (profile s))

/-- The five warning flags (R104). -/
def warningFlags (p : Profile) (d : Driver) : Warnings where
  contPre := decide (p.contLimit - d.cd ≤ p.lead)
  contLimit := decide (p.contLimit ≤ d.cd)
  dailyPre := decide (dailyLimitOf p d - d.dd ≤ p.lead)
  dailyLimit := decide (dailyLimitOf p d ≤ d.dd)
  weeklyLimit := decide (p.weeklyLimit ≤ d.wd)

/-- A DRIVE_LIMIT record (R104, R206): event 0 CONTINUOUS, 1 DAILY, 2 WEEKLY, 3 EXTENSION. -/
def postDriveLimit (i : Fin 2) (event counter limit : Nat) (s : State) : State :=
  post .driveLimit
    ([u8 (slotNumber i), u8 event] ++ le 2 counter ++ le 2 limit ++ [u8 (s.driver i).extensions]) s

/-- The extension test (R105). -/
def extensionDue (p : Profile) (d : Driver) : Bool :=
  !d.extended && decide (p.dailyLimit ≤ d.dd) && decide (d.extensions < p.extensions)

/-- The warning evaluation of one PRESENT slot (R104), the extension test first (R105). -/
def evaluateWarnings (i : Fin 2) (s : State) : State :=
  let p := profile s
  let s := noteProfile s
  let s :=
    if extensionDue p (s.driver i) then
      let d := s.driver i
      postDriveLimit i 3 d.dd p.extendedLimit
        (s.setDriver i { d with extended := true, extensions := d.extensions + 1 })
    else s
  let d := s.driver i
  let f := warningFlags p d
  let s := s.setDriver i { d with flags := f }
  let s := if !d.flags.contLimit && f.contLimit then postDriveLimit i 0 d.cd p.contLimit s else s
  let s := if !d.flags.dailyLimit && f.dailyLimit then postDriveLimit i 1 d.dd (dailyLimitOf p d) s else s
  if !d.flags.weeklyLimit && f.weeklyLimit then postDriveLimit i 2 d.wd p.weeklyLimit s else s

/-- The driving slot (R106): the slot whose activity in force is DRIVE. -/
def drivingSlot (s : State) : Option (Fin 2) :=
  if (s.driver 0).activity = .drive then some 0
  else if (s.driver 1).activity = .drive then some 1
  else none

/-- A driving slot exists and a flag of it is set (R106). -/
def drivingFlag (s : State) (f : Warnings → Bool) : Bool :=
  match drivingSlot s with
  | some i => f (s.driver i).flags
  | none => false

/-- Assertions 45 to 48 are re-evaluated (R106), in ascending number (DESIGN CHOICE: log entry 49). -/
def evalDriving (s : State) : State :=
  let b45 := drivingFlag s Warnings.contPre
  let b46 := drivingFlag s Warnings.contLimit
  let b47 := drivingFlag s Warnings.dailyPre
  let b48 := drivingFlag s Warnings.dailyLimit
  let d := s.dtu
  let s := s.setDtu { d with assert45 := b45, assert46 := b46, assert47 := b47, assert48 := b48 }
  sendAssertion 48 none d.assert48 b48
    (sendAssertion 47 none d.assert47 b47
      (sendAssertion 46 none d.assert46 b46
        (sendAssertion 45 none d.assert45 b45 s)))

/-- The implied assertion is re-evaluated (R114). -/
def evalImplied (s : State) : State :=
  let was := s.dtu.assert49
  let isNow := (s.driver 0).source == .implied || (s.driver 1).source == .implied
  sendAssertion 49 none was isNow (s.setDtu { s.dtu with assert49 := isNow })

/-! ### Logs (R115) -/

/-- A new entry in a slot's log: after the head, or at position 0 of an empty log. -/
def Driver.logNew (d : Driver) (e : LogEntry) : Driver :=
  let h := if d.logCount = 0 then 0 else (d.logHead + 1) % 32
  { d with logHead := h, logCount := min 32 (d.logCount + 1), log := vset d.log (Fin.ofNat 32 h) e }

/-- The newest entry of a non-empty log changed. -/
def Driver.logNewest (f : LogEntry → LogEntry) (d : Driver) : Driver :=
  if d.logCount = 0 then d
  else
    let h : Fin 32 := Fin.ofNat 32 d.logHead
    { d with log := vset d.log h (f d.log[h]) }

/-! ### The resolution rule (R111, R112) -/

/-- A slot's base (R111, step 1). -/
def Driver.base (d : Driver) : Activity × Source := d.report.getD (.unknown, .none)

/-- What the three steps of R111 decide: both slots' activity and source, and the crew conflict. -/
structure Resolution where
  first : Activity × Source
  second : Activity × Source
  conflict : Bool
  deriving DecidableEq, Repr

/-- R111: base, crew conflict, implied driving. -/
def resolve (moving present1 implied : Bool) (base1 base2 : Activity × Source) : Resolution :=
  if base1.1 = .drive ∧ base2.1 = .drive then
    { first := base1, second := (.work, base2.2), conflict := true }
  else if moving && base1.1 != .drive && base2.1 != .drive && present1 && implied then
    { first := (.drive, .implied), second := base2, conflict := false }
  else { first := base1, second := base2, conflict := false }

/-- An activity and a source in one byte (R206). -/
def activityByte (a : Activity × Source) : Byte := u8 (a.1.code + 16 * a.2.code)

/-- A change of a slot's activity or source (R111, R115, R116): dated, logged and posted. A change of the source alone is a
change too. DEDUCED, of its date: log entry 39. -/
def changeActivity (i : Fin 2) (new : Activity × Source) (date : Nat × Nat) (s : State) : State :=
  let d := s.driver i
  if (d.activity, d.source) = new then s
  else
    let e : LogEntry :=
      { activity := new.1, source := new.2, startDay := date.1, startMinute := date.2
        duration := 0, gap := false, conflict := false }
    let d' : Driver :=
      { d with activity := new.1, source := new.2, sinceDay := date.1, sinceMinute := date.2 }
    post .activity
      ([u8 (slotNumber i), activityByte new, activityByte (d.activity, d.source)] ++ le 2 date.1 ++ le 2 date.2)
      (s.setDriver i (d'.logNew e))

/-- A MOTION_CONFLICT record (R112, R206): reason 0 CREW, 1 MOTION. -/
def postConflict (reason : Nat) (base1 base2 : Activity) (s : State) : State :=
  post .motionConflict
    [u8 reason, u8 base1.code, u8 base2.code, u8 (flag s.dtu.moving), u8 s.dtu.line.code] s

/-- The CONFLICT flag is set on a slot's newest log entry (R112). -/
def flagConflict (i : Fin 2) (s : State) : State :=
  s.setDriver i ((s.driver i).logNewest fun e => { e with conflict := true })

/-- The day and minute that date a slot's change (R110): the minute stamp of the ACTIVITY frame that changes this slot, its
activity or its source alone (DEDUCED: log entry 39), and the present time of day otherwise. UNVERIFIED, before day 0:
log entry 4. -/
def changeDate (s : State) (stamp : Option (Fin 2 × Nat)) (i : Fin 2) : Nat × Nat :=
  match stamp with
  | some (j, m) =>
      if j = i then
        if s.dtu.minute < m then
          (if s.dtu.day = 0 then Config.dayBeforeEpoch.toNat else s.dtu.day - 1, m)
        else (s.dtu.day, m)
      else (s.dtu.day, s.dtu.minute)
  | none => (s.dtu.day, s.dtu.minute)

/-- A run of the resolution rule (R111, R112, R106, R114). `stamp` is the slot and minute stamp of an ACTIVITY frame.
DEDUCED: log entry 22. Slot 1 changes before slot 2 (DESIGN CHOICE: log entry 37), and cause 49 follows causes 45 to 48 (DESIGN
CHOICE: log entry 49). -/
def resolution (stamp : Option (Fin 2 × Nat)) (s : State) : State :=
  let s := noteProfile s
  let b1 := (s.driver 0).base
  let b2 := (s.driver 1).base
  let r := resolve s.dtu.moving (s.driver 0).present (profile s).implied b1 b2
  let hadConflict := s.dtu.crewConflict
  let s := s.setDtu { s.dtu with crewConflict := r.conflict }
  let s := changeActivity 0 r.first (changeDate s stamp 0) s
  let s := changeActivity 1 r.second (changeDate s stamp 1) s
  let s := if !hadConflict && r.conflict then flagConflict 1 (postConflict 0 b1.1 b2.1 s) else s
  let s :=
    if s.dtu.moving && s.dtu.line == .alive && b1.1 != .drive && b2.1 != .drive && !s.dtu.motionPosted then
      flagConflict 0 (postConflict 1 b1.1 b2.1 (s.setDtu { s.dtu with motionPosted := true }))
    else s
  evalImplied (evalDriving s)

/-! ### Moving flag and line state (R113) -/

/-- SPD hands DTU a moving-set. -/
def movingSet (s : State) : State :=
  resolution none (s.setDtu { s.dtu with moving := true, motionPosted := false })

/-- SPD hands DTU a moving-clear: an implied DRIVE's report is cleared when the line is not ALIVE. -/
def movingClear (s : State) : State :=
  let s := s.setDtu { s.dtu with moving := false }
  let s :=
    if (s.driver 0).source = .implied ∧ s.dtu.line ≠ .alive then
      s.setDriver 0 { s.driver 0 with report := none }
    else s
  resolution none s

/-- TLR hands DTU a new line state: LOST clears both reports. -/
def lineToDtu (l : LineState) (s : State) : State :=
  let s := s.setDtu { s.dtu with line := l }
  let s :=
    if l = .lost then
      (s.setDriver 0 { s.driver 0 with report := none }).setDriver 1 { s.driver 1 with report := none }
    else s
  resolution none s

/-! ### Cards and reports (R107–R110) -/

/-- A CARD record (R107–R109, R206): event 0 WITHDRAW, 1 INSERT, 2 PRESENCE_IN, 3 PRESENCE_OUT. -/
def postCard (i : Fin 2) (event : Nat) (s : State) : State :=
  post .card
    ([u8 (slotNumber i), u8 event] ++ le 4 (s.driver i).holder ++ le 2 (s.driver i).dd) s

/-- The record that an insert loads (R107), the clamp in its order: weekly, daily, continuous. -/
def Driver.insert (p : Profile) (f : CardFields) (d : Driver) : Driver :=
  let wd := f.weekly.toNat
  let dd := min f.daily.toNat wd
  let cd := min f.continuous.toNat dd
  let keep := d.holderValid && d.holder == f.holder.toNat
  { d with
    present := true, wd := wd, dd := dd, cd := cd, br := 0
    firstPart := f.breakState.toNat == 1
    extensions := f.extensions.toNat
    extended := decide (p.dailyLimit < dd)
    restored := false
    holder := f.holder.toNat, holderValid := true
    logCount := if keep then d.logCount else 0 }

/-- A card insert (R107). -/
def cardInsert (i : Fin 2) (f : CardFields) (s : State) : State :=
  let s := s.setDriver i ((s.driver i).insert (profile s) f)
  let s := evaluateWarnings i s
  let s := deriveSlot i s
  let s := resolution none s
  postCard i 1 s

/-- A card withdraw (R108): on an ABSENT slot it only posts the record. DEDUCED: log entry 23. -/
def cardWithdraw (i : Fin 2) (s : State) : State :=
  if (s.driver i).present then
    let s := s.setDriver i { s.driver i with present := false }
    let s := deriveSlot i s
    let s := resolution none s
    postCard i 0 s
  else postCard i 0 s

/-- A PRESENCE frame's card flag for one slot (R109). -/
def presenceFlag (i : Fin 2) (set : Bool) (s : State) : State :=
  let d := s.driver i
  if set && !d.present then postCard i 2 (s.setDriver i { d with present := true, holderValid := false })
  else if !set && d.present then postCard i 3 (deriveSlot i (s.setDriver i { d with present := false }))
  else s

/-- A PRESENCE frame's activity for one slot (R110): a report that already holds it is left as it is. -/
def presenceReport (i : Fin 2) (a : Activity) (s : State) : State :=
  let d := s.driver i
  match d.report with
  | some (b, _) => if b = a then s else s.setDriver i { d with report := some (a, .presence) }
  | none => s.setDriver i { d with report := some (a, .presence) }

/-- A valid PRESENCE frame in DTU (R109, R110): both flags first, slot 1's before slot 2's (DESIGN CHOICE: log entry 37), then
the activities, and one run of the resolution rule after both (R111). DESIGN CHOICE: log entry 40. -/
def presenceToDtu (a1 a2 : Activity) (flags : Byte) (s : State) : State :=
  let s := presenceFlag 1 (bit flags 1) (presenceFlag 0 (bit flags 0) s)
  resolution none (presenceReport 1 a2 (presenceReport 0 a1 s))

/-- A valid ACTIVITY frame in DTU (R110). -/
def activityToDtu (i : Fin 2) (a : Activity) (minute : Nat) (s : State) : State :=
  resolution (some (i, minute)) (s.setDriver i { s.driver i with report := some (a, .tacho) })

/-! ### The clock (R97–R99) -/

/-- A time word of TIME_SET (R206): day × 1,440 + minute in bits 0–27, the source in bit 28, the old time-valid
state in bit 31. -/
def timeWord (day minute source valid : Nat) : List Byte :=
  le 4 (day * 1440 + minute + 2 ^ 28 * source + 2 ^ 31 * valid)

/-- The GAP flag is set on a slot's newest log entry (R98). -/
def flagGap (i : Fin 2) (s : State) : State :=
  s.setDriver i ((s.driver i).logNewest fun e => { e with gap := true })

/-- A set of the clock (R98): from a TIME frame (source 0) or a SET TIME order (source 1). The second set begins at this
instant. DEDUCED: log entry 13. DESIGN CHOICE, of the second's start: log entry 38. -/
def setClock (day minute second source : Nat) (s : State) : State :=
  let d := s.dtu
  let s := s.setDtu { d with day := day, minute := minute, second := second, secondStart := s.now }
  let old := d.day * 1440 + d.minute
  let new := day * 1440 + minute
  if old + 1 < new ∨ new + 1 < old ∨ d.timeValid = false then
    let s :=
      if d.timeValid then s
      else s.setDtu { s.dtu with timeValid := true, lastDay := day, lastMinute := minute }
    flagGap 1 (flagGap 0
      (post .timeSet
        (timeWord d.day d.minute source (flag d.timeValid) ++ timeWord day minute source 0) s))
  else s

/-! ### The minute event (R99–R102) -/

/-- An activity is a break activity (R100). -/
def isBreak (p : Profile) (a : Activity) : Bool := a == .rest || (a == .available && p.restAndAvailable)

/-- The end of a break run (R102). -/
def Driver.endRun (p : Profile) (d : Driver) : Driver :=
  { d with
    firstPart := d.firstPart || (decide (p.splitFirst ≤ d.br) && decide (d.br < p.fullBreak))
    br := 0 }

/-- The three tests of a break minute (R101), in their order. -/
def Driver.breakTests (p : Profile) (d : Driver) : Driver :=
  let d :=
    if p.fullBreak ≤ d.br ∨ (d.firstPart ∧ p.splitSecond ≤ d.br) then { d with cd := 0, firstPart := false } else d
  let d := if p.dailyRest ≤ d.br then { d with dd := 0, extended := false } else d
  if p.weeklyRest ≤ d.br then { d with wd := 0, extensions := 0 } else d

/-- One counted minute credited to a PRESENT slot (R100). -/
def Driver.credit (p : Profile) (d : Driver) : Driver :=
  if d.activity = .drive then
    { d with cd := satAdd 65535 d.cd 1, dd := satAdd 65535 d.dd 1, wd := satAdd 65535 d.wd 1 }.endRun p
  else if isBreak p d.activity then ({ d with br := satAdd 65535 d.br 1 } : Driver).breakTests p
  else d.endRun p

/-- A counted minute event for one slot (R100): the newest log entry grows whatever the card state. -/
def creditSlot (i : Fin 2) (s : State) : State :=
  let d := (s.driver i).logNewest fun e => { e with duration := satAdd 65535 e.duration 1 }
  s.setDriver i (if d.present then d.credit (profile s) else d)

/-- The minute is later than the last credited one (R99). -/
def countedMinute (s : State) (day minute : Nat) : Bool :=
  decide (s.dtu.lastDay < day ∨ (s.dtu.lastDay = day ∧ s.dtu.lastMinute < minute))

/-- What every minute event does after crediting (R100): warnings of PRESENT slots, slot 1's before slot 2's (DESIGN CHOICE: log
entry 37), derived values, causes 45 to 48. -/
def afterCredit (s : State) : State :=
  let s := noteProfile s
  let s := if (s.driver 0).present then evaluateWarnings 0 s else s
  let s := if (s.driver 1).present then evaluateWarnings 1 s else s
  evalDriving (deriveSlot 1 (deriveSlot 0 s))

/-- The minute event that ends the given minute (R99, R100). -/
def minuteEvent (day minute : Nat) (s : State) : State :=
  if countedMinute s day minute then
    afterCredit (creditSlot 1 (creditSlot 0
      (s.setDtu { s.dtu with lastDay := day, lastMinute := minute })))
  else afterCredit s

/-- The milliseconds have rolled over (R97): a whole second since the last second or set. DESIGN CHOICE: log entry 38. -/
def secondOver (s : State) : Bool := decide (s.dtu.secondStart + 1000000 ≤ s.now)

/-- The second advances (R97): from 59 it is a minute event, and the day saturates at 65,535. -/
def secondTick (s : State) : State :=
  let d := s.dtu
  if d.second < 59 then
    s.setDtu { d with second := d.second + 1, secondStart := d.secondStart + 1000000 }
  else
    let wraps := decide (1439 ≤ d.minute)
    let s := s.setDtu { d with
      second := 0, secondStart := d.secondStart + 1000000
      minute := if wraps then 0 else d.minute + 1
      day := if wraps then satAdd 65535 d.day 1 else d.day }
    minuteEvent d.day d.minute s

/-! ### Power transitions and snapshots (R117, R118, R120, R121) -/

/-- The snapshot timer starts with the interval of this instant (R118). -/
def startSnapTimer (s : State) : State :=
  let s := noteProfile s
  s.setDtu { s.dtu with snapTimer := some (s.now + snapshotInterval s) }

/-- DTU at STANDBY entry (R120). -/
def dtuStandbyEntry (s : State) : State :=
  let s := startSnapTimer (placeSnap s)
  s.setDtu { s.dtu with
    assert45 := false, assert46 := false, assert47 := false, assert48 := false, assert49 := false }

/-- DTU at RUN entry (R121): the assertions are re-evaluated from clear. -/
def dtuRunEntry (s : State) : State :=
  let s := s.setDtu { s.dtu with
    snapTimer := none
    assert45 := false, assert46 := false, assert47 := false, assert48 := false, assert49 := false }
  evalImplied (evalDriving s)

end Sys2Proof.Machine
end

