-- ==== Sys2Proof/Machine/Gauges.lean ====
section
/-! DEFINITION. GAU's shared operations: takes and offers, the calibration table, damping, the motion profile, homing,
stall sensing and the gauge causes (02_needle_gauges.md). -/

namespace Sys2Proof.Machine

/-- The gauge warning cause of channel c. -/
def warningCause (c : Fin 8) : Fin 53 := ⟨32 + c.val, by omega⟩

/-- An event's work on each of the channels, in ascending number. DESIGN CHOICE: log entry 37. -/
def forChannels (f : Fin 8 → State → State) (s : State) : State :=
  (List.finRange 8).foldl (fun s c => f c s) s

/-- A setting that was read out of its range sets the DEFAULTED flag (R25). -/
def noteBad (c : Fin 8) (bad : Bool) (s : State) : State :=
  s.setChannel c { s.channel c with defaulted := (s.channel c).defaulted || bad }

/-! ### Assertions (R44, R45) -/

/-- The fault assertion is re-evaluated (R45). It acts in RUN. DEDUCED: log entry 18. -/
def evalGaugeFault (s : State) : State :=
  if inRun s then
    let was := s.gau.faultAssert
    let isNow := s.gau.channels.toList.any fun ch => ch.state == .fault || ch.calibration
    sendAssertion 42 none was isNow (s.setGau { s.gau with faultAssert := isNow })
  else s

/-- The stale assertion is re-evaluated (R45). It acts in RUN. DEDUCED: log entry 18. -/
def evalGaugeStale (s : State) : State :=
  if inRun s then
    let was := s.gau.staleAssert
    let isNow := s.gau.channels.toList.any fun ch => ch.state == .stale
    sendAssertion 43 none was isNow (s.setGau { s.gau with staleAssert := isNow })
  else s

/-- The warning assertion that x calls for (R44), from the assertion as it was. L + h and H − h are compared without
wrap. -/
def warningDecision (mode lo hi h x : Nat) (was : Bool) : Bool :=
  let setLow := decide (x < lo)
  let setHigh := decide (hi < x)
  let clearLow := decide (lo + h ≤ x)
  let clearHigh := decide (x + h ≤ hi)
  if mode = 1 then (if setLow then true else if clearLow then false else was)
  else if mode = 2 then (if setHigh then true else if clearHigh then false else was)
  else if mode = 3 then
    (if setLow || setHigh then true else if clearLow && clearHigh then false else was)
  else false

/-- A threshold evaluation of channel c (R44), made in RUN and outside STALE. -/
def thresholdEvaluation (c : Fin 8) (s : State) : State :=
  if inRun s && (s.channel c).state != .stale then
    let ch := s.channel c
    let isNow := warningDecision (warningMode s c) (thresholdL s c) (thresholdH s c) (hysteresis s c) ch.x ch.warning
    let s := noteBad c (badMode s c) (s.setChannel c { ch with warning := isNow })
    let s := if !ch.warning && isNow then noteBad c (badTag s c) s else s
    sendAssertion (warningCause c) (some (warningTag s c)) ch.warning isNow s
  else s

/-! ### Offers (R28) -/

/-- An offer of v_pub to channel c. -/
def offerTo (v : Nat) (c : Fin 8) (s : State) : State :=
  let s := noteBad c (badSource s c) s
  if gaugeSource s c = .speed then
    thresholdEvaluation c (s.setChannel c { s.channel c with x := v })
  else s

/-- SPD offers v_pub to every channel whose source is SPEED (R12, R28), in ascending channel number.
DESIGN CHOICE: log entry 37. -/
def offer (v : Nat) (s : State) : State := forChannels (offerTo v) s

/-! ### Channel states -/

/-- A channel enters a state: the missing run returns to 0 (R41). -/
def enterState (x : Channel) (st : ChannelState) : Channel := { x with state := st, missing := 0 }

/-- A channel enters HOMING (R38): a_max is latched, and the count and p start at a_max + home overrun. -/
def enterHoming (c : Fin 8) (s : State) : State :=
  let lim := sweepLimit s c
  let total := lim + homeOverrun s c
  let bad := badLimit s c || badOverrun s c
  noteBad c bad (s.setChannel c { enterState (s.channel c) .homing with
    aMax := lim, count := total, pos := total, dir := .down, vel := 0 })

/-- What a channel that has finished a motion does next (R38, R39): STALE if fresh is no, TRACKING otherwise. -/
def settledState (x : Channel) : ChannelState := if x.fresh then .tracking else .stale

/-- The end of homing (R38). -/
def endHoming (c : Fin 8) (s : State) : State :=
  let ch := { s.channel c with pos := 0, vel := 0, dir := .down, count := 0 }
  let ch :=
    if ch.parkDue then { enterState ch .parked with parkDue := false, sweepDue := false }
    else if ch.sweepDue then { enterState ch .sweep with sweepDue := false, leg := .upLeg }
    else enterState ch (settledState ch)
  evalGaugeStale (s.setChannel c ch)

/-- The flags byte of the gauge mirror and of a GAUGE_STATE record (R205). -/
def gaugeFlags (x : Channel) : Byte := u8 (flag x.calibration + 2 * flag x.defaulted)

/-- A GAUGE_STATE record (R46, R206): the new state, and the position at which the event found the needle.
DEDUCED: log entry 17. -/
def postGauge (c : Fin 8) (new : ChannelState) (position : Nat) (s : State) : State :=
  let ch := s.channel c
  post .gaugeState
    ([u8 c.val, u8 new.code, u8 ch.stallCount, gaugeFlags ch] ++ le 2 position) s

/-- The time within which a second stall is a fault (R42). -/
def rehomeWindow : Nat := 60000000

/-- A stall in SWEEP, TRACKING or STALE (R42). One that leaves STALE for FAULT clears cause 43 before it raises cause 42 (DESIGN
CHOICE: log entry 49). -/
def stall (c : Fin 8) (s : State) : State :=
  let ch := s.channel c
  let again := match ch.rehomeAt with
    | some r => decide (s.now < r + rehomeWindow)
    | none => false
  let counted := { ch with stallCount := satAdd 255 ch.stallCount 1 }
  if again then
    let s := s.setChannel c { enterState counted .fault with vel := 0 }
    postGauge c .fault ch.pos (evalGaugeFault (evalGaugeStale s))
  else
    let s := s.setChannel c { counted with sweepDue := false, rehomeAt := some s.now }
    postGauge c .homing ch.pos (evalGaugeStale (enterHoming c s))

/-- A REHOME of channel c (R43). Cause 43 is re-evaluated before cause 42 (DESIGN CHOICE: log entry 49). -/
def rehomeChannel (c : Fin 8) (s : State) : State :=
  let was := (s.channel c).state
  let s := s.setChannel c { s.channel c with stallCount := 0, rehomeAt := none }
  let s := if was = .fault then postGauge c .homing (s.channel c).pos s else s
  let s := s.setChannel c { s.channel c with sweepDue := false, parkDue := false }
  evalGaugeFault (evalGaugeStale (enterHoming c s))

/-- A REHOME order reaches GAU with its channel mask (R43, R185), channel by channel in ascending number.
DESIGN CHOICE: log entry 37. -/
def rehomeMask (mask : Byte) (s : State) : State :=
  forChannels (fun c s => if bit mask c.val then rehomeChannel c s else s) s

/-! ### The calibration table (R31, R32) -/

/-- x rises strictly over the points 0 to n. -/
def pointsRise (s : State) (c : Fin 8) : Nat → Bool
  | 0 => true
  | n + 1 => decide (pointX s c n < pointX s c (n + 1)) && pointsRise s c n

/-- Every angle of the points 0 to n is at most a limit. -/
def anglesWithin (s : State) (c : Fin 8) (lim : Nat) : Nat → Bool
  | 0 => decide (pointA s c 0 ≤ lim)
  | n + 1 => decide (pointA s c (n + 1) ≤ lim) && anglesWithin s c lim n

/-- The table is valid against the a_max in use (R31). -/
def tableValid (s : State) (c : Fin 8) : Bool :=
  let n := pointCount s c
  decide (2 ≤ n ∧ n ≤ 8) && pointsRise s c (n - 1) && anglesWithin s c (s.channel c).aMax (n - 1)

/-- num ÷ den rounded to the nearest integer, halves up. -/
def roundDiv (num den : Nat) : Nat := (2 * num + den) / (2 * den)

/-- The angle on segment i (R32): q is rounded with halves away from zero, on rising and falling segments alike. -/
def segmentAngle (s : State) (c : Fin 8) (i x : Nat) : Nat :=
  let dx := pointX s c (i + 1) - pointX s c i
  let a := pointA s c i
  let b := pointA s c (i + 1)
  if a ≤ b then a + roundDiv ((x - pointX s c i) * (b - a)) dx
  else a - roundDiv ((x - pointX s c i) * (a - b)) dx

/-- The angle of x from the segments at and below i. -/
def angleBelow (s : State) (c : Fin 8) (x : Nat) : Nat → Nat
  | 0 => segmentAngle s c 0 x
  | i + 1 => if pointX s c (i + 1) ≤ x then segmentAngle s c (i + 1) x else angleBelow s c x i

/-- A(x) of a valid table (R32). -/
def tableAngle (s : State) (c : Fin 8) (x : Nat) : Nat :=
  let n := pointCount s c
  if x ≤ pointX s c 0 then pointA s c 0
  else if pointX s c (n - 1) ≤ x then pointA s c (n - 1)
  else angleBelow s c x (n - 2)

/-! ### The filter event (R27, R31, R33, R34) -/

/-- A channel stands as R27 and R28 have it under a source other than HOST: mode TRACK, no freshness timer, fresh yes, not
STALE, and with the source OFF no warning assertion. Under HOST nothing is asked of it. -/
def sourceSettled (src : GaugeSource) (x : Channel) : Bool :=
  src == .host ||
    (x.mode == .track && x.freshTimer.isNone && x.fresh && x.state != .stale && (src == .speed || !x.warning))

/-- The source setting as a filter event reads it (R27, R28, R30). A change acts as R27 states, and so does a source other
than HOST that finds what a take under HOST left since the last filter event. DESIGN CHOICE: log entry 42. A STALE channel that
changes to OFF clears cause 43 before its warning cause (DESIGN CHOICE: log entry 49). -/
def applySourceChange (c : Fin 8) (s : State) : State :=
  let src := gaugeSource s c
  let ch := s.channel c
  if src = ch.source ∧ sourceSettled src ch then s
  else
    let ch := { ch with source := src }
    let off := fun (x : Channel) => { x with freshTimer := none, fresh := true }
    let leave := fun (x : Channel) => if x.state = .stale then enterState x .tracking else x
    match src with
    | .off =>
        let s' := evalGaugeStale (s.setChannel c { off (leave ch) with mode := .track, warning := false })
        if ch.warning then clearCause (warningCause c) s' else s'
    | .speed => evalGaugeStale (s.setChannel c { off (leave ch) with mode := .track })
    | .host =>
        let ch := { off ch with mode := ch.storedMode, x := ch.storedValue }
        let f := freshness s c
        let ch :=
          if inRun s && f != 0 && ch.mode != .hold then { ch with freshTimer := some (s.now + f) } else ch
        noteBad c (badFreshness s c) (s.setChannel c ch)

/-- The table check (R31): none while the a_max in use is 0. -/
def tableCheck (c : Fin 8) (s : State) : State :=
  let ch := s.channel c
  if ch.aMax = 0 then s
  else
    let bad := !tableValid s c
    let s' := s.setChannel c { ch with calibration := bad }
    if bad = ch.calibration then s' else evalGaugeFault s'

/-- The demand angle that a filter event sets (R33). DEDUCED: log entry 20. -/
def demandAngle (s : State) (c : Fin 8) : Nat :=
  let ch := s.channel c
  if gaugeSource s c = .off then 0
  else if ch.calibration || ch.aMax == 0 then ch.demand
  else if ch.state = .stale then pointA s c 0
  else
    match ch.mode with
    | .hold => ch.demand
    | .rest => pointA s c 0
    | .track => tableAngle s c ch.x

/-- Damping (R34): a fraction 1/2^k of the gap, truncated toward zero, at least 1 while there is a gap, within 0 to a_max. -/
def damp (a t k aMax : Nat) : Nat :=
  let moved :=
    if t < a then t + max 1 ((a - t) / 2 ^ k)
    else if a < t then t - max 1 ((t - a) / 2 ^ k)
    else t
  min moved aMax

/-- The filter event of channel c (R25, R27, R31, R33, R34). It alone reads the calibration table. The source change acts before
the table check (DESIGN CHOICE: log entry 49). -/
def filterChannel (c : Fin 8) (s : State) : State :=
  let s := applySourceChange c s
  let s := s.setChannel c { s.channel c with defaulted := anyBad s c }
  let s := tableCheck c s
  let a := demandAngle s c
  let ch := s.channel c
  let t :=
    if ch.state = .unhomed ∨ ch.state = .fault then a else damp a ch.target (dampingShift s c) ch.aMax
  s.setChannel c { ch with
    demand := a, target := t
    restAngle := if ch.calibration || ch.aMax == 0 then 0 else pointA s c 0 }

/-! ### Motion (R35–R37) -/

/-- The motion target of a channel record (R35). The table is read at filter events only (R25), so DOWN_LEG goes to a_0 as
the last of them read it. An angle above the a_max in use makes the table invalid. DEDUCED: log entry 20. -/
def Channel.motionTarget (x : Channel) : Nat :=
  match x.state with
  | .sweep => (match x.leg with
    | .upLeg => x.aMax
    | .downLeg => if x.restAngle ≤ x.aMax then x.restAngle else 0)
  | .parking => 0
  | _ => x.target

/-- The motion target of the step event (R35). -/
def motionTarget (s : State) (c : Fin 8) : Nat := (s.channel c).motionTarget

/-- The velocity R36 chooses: the largest of v − 1, v, v + 1 within 0 to v_max from which the needle can still stop
within D, and v − 1 when none is. -/
def chooseVelocity (v D lim : Nat) : Nat :=
  let ok := fun w => decide (w ≤ lim ∧ w * (w + 1) / 2 ≤ D)
  if ok (v + 1) then v + 1 else if ok v then v else v - 1

/-- What one step event does to a needle: where it ends, its velocity and direction, and the velocity chosen. -/
structure Move where
  pos : Nat
  vel : Nat
  dir : Direction
  chosen : Nat
  deriving DecidableEq, Repr

/-- The direction toward a target. -/
def toward (pos target : Nat) : Direction := if pos < target then .up else .down

/-- R36: toward the target, or at rest. -/
def moveToward (pos vel : Nat) (dir : Direction) (target lim : Nat) : Move :=
  if pos = target then { pos := pos, vel := 0, dir := dir, chosen := 0 }
  else
    let dir := if vel = 0 then toward pos target else dir
    let D := if pos < target then target - pos else pos - target
    let w := chooseVelocity vel D lim
    let m := min w D
    { pos := if pos < target then pos + m else pos - m
      vel := if m = D then 0 else w
      dir := dir
      chosen := w }

/-- R37: away from the target, slowing by 1, within 0 to a_max. A move that the clamp shortens makes v' = 0, and 0 is then the
choice that stall sense sees (R41), so that move is not sampled. DESIGN CHOICE: log entry 43. -/
def moveAway (pos vel : Nat) (dir : Direction) (target aMax : Nat) : Move :=
  let w := vel - 1
  let p := match dir with
    | .up => min (pos + w) aMax
    | .down => pos - w
  let short := match dir with
    | .up => decide (aMax < pos + w)
    | .down => decide (pos < w)
  let w' := if short then 0 else w
  { pos := p, vel := w', dir := if w' = 0 then toward p target else dir, chosen := w' }

/-- R36 or R37, whichever applies. -/
def moveNeedle (ch : Channel) (target lim : Nat) : Move :=
  if ch.vel = 0 ∨ ch.pos = target ∨ ch.dir = toward ch.pos target then
    moveToward ch.pos ch.vel ch.dir target lim
  else moveAway ch.pos ch.vel ch.dir target ch.aMax

/-! ### Stall sensing (R41) -/

/-- A move lands on or crosses a multiple of 12. -/
def crossesStep (old new : Nat) : Bool :=
  if old < new then decide (old / 12 < new / 12)
  else if new < old then decide ((new + 11) / 12 * 12 < old)
  else false

/-- The missing run after a step event, and whether a stall indication is made. -/
def sampleCoil (sense : Bool) (silent : Bool) (chosen old new run : Nat) : Nat × Bool :=
  if sense && decide (2 ≤ chosen) && crossesStep old new then
    if silent then (if run + 1 < 3 then (run + 1, false) else (0, true)) else (0, false)
  else (run, false)

/-- One step event in HOMING (R38). -/
def stepHoming (silent : Bool) (c : Fin 8) (s : State) : State :=
  let ch := s.channel c
  let w := homingSpeed s c
  let m := min w ch.count
  let (run, indication) := sampleCoil (stallSense s c) silent w ch.pos (ch.pos - m) ch.missing
  let s := noteBad c (badHomingSpeed s c) (s.setChannel c { ch with
    vel := w, count := ch.count - m, pos := ch.pos - m, missing := run })
  if indication || ch.count - m == 0 then endHoming c s else s

/-- What the arrival of a moved needle does (R39, R40). -/
def arrive (c : Fin 8) (target : Nat) (s : State) : State :=
  let ch := s.channel c
  if ch.pos = target ∧ ch.vel = 0 then
    match ch.state with
    | .parking => s.setChannel c (enterState ch .parked)
    | .sweep =>
        match ch.leg with
        | .upLeg => s.setChannel c { ch with leg := .downLeg }
        | .downLeg => evalGaugeStale (s.setChannel c (enterState ch (settledState ch)))
    | _ => s
  else s

/-- One step event in SWEEP, TRACKING, STALE or PARKING (R35–R37, R39–R42). A stall indication at the step event that arrives
acts as a stall, and the arrival makes no change of its own. DESIGN CHOICE: log entry 43. -/
def stepMoving (silent : Bool) (c : Fin 8) (s : State) : State :=
  let ch := s.channel c
  let target := motionTarget s c
  let mv := moveNeedle ch target (vMax s c)
  let (run, indication) := sampleCoil (stallSense s c) silent mv.chosen ch.pos mv.pos ch.missing
  let s := noteBad c (badVMax s c) (s.setChannel c { ch with
    pos := mv.pos, vel := mv.vel, dir := mv.dir
    missing := if mv.vel = 0 then 0 else run })
  if indication then
    if ch.state = .parking then
      s.setChannel c { enterState (s.channel c) .parked with pos := 0, vel := 0 }
    else stall c s
  else arrive c target s

/-- The step event of channel c (R35, R49). -/
def stepChannel (silent : Bool) (c : Fin 8) (s : State) : State :=
  let ch := s.channel c
  match ch.state with
  | .unhomed | .parked | .fault => s
  | st =>
      if s.psc.low then s.setChannel c { ch with vel := 0, missing := 0 }
      else if st = .homing then stepHoming silent c s
      else stepMoving silent c s

/-! ### Takes and freshness (R29, R30) -/

/-- The demand mode of a record's mode byte: any other code is REST (R29). -/
def demandModeOf : Nat → DemandMode
  | 0 => .track
  | 1 => .hold
  | _ => .rest

/-- Channel c after the take of a record with this mode and value, while its source is HOST (R29, R30).
DEDUCED: log entry 21. -/
def demandTaken (s : State) (c : Fin 8) (mode : DemandMode) (value : Nat) : Channel :=
  let ch : Channel := { s.channel c with x := value, mode := mode }
  let ch := if ch.state = .stale then enterState ch .tracking else ch
  let f := freshness s c
  if mode = .hold then { ch with demand := ch.target, freshTimer := none, fresh := true }
  else if inRun s then { ch with fresh := true, freshTimer := if f = 0 then none else some (s.now + f) }
  else ch

/-- A record's effect on channel c while its source is HOST (R29, R30). -/
def applyDemand (c : Fin 8) (mode : DemandMode) (value : Nat) (s : State) : State :=
  let s := evalGaugeStale (s.setChannel c (demandTaken s c mode value))
  if mode = .track then thresholdEvaluation c s else s

/-- The take of gauge demand record c (R29, R30). It reads the source and the freshness setting (R25). -/
def takeGaugeDemand (c : Fin 8) (s : State) : State :=
  let a := 0x180 + 8 * c.val
  let mode := demandModeOf (hostByte s (a + 1)).toNat
  let value := host16 s (a + 2)
  let s := s.setLnk { s.lnk with gaugeEcho := vset s.lnk.gaugeEcho c (hostByte s a) }
  let s := noteBad c (badSource s c || badFreshness s c)
    (s.setChannel c { s.channel c with storedMode := mode, storedValue := value })
  if gaugeSource s c = .host then applyDemand c mode value s else s

/-- The expiry of channel c's freshness timer (R30). Freshness is enforced on a channel whose source, as the last filter
event found it, is HOST; otherwise the timer only stops, and fresh is yes (R28). DESIGN CHOICE: log entry 42. -/
def expireFreshness (c : Fin 8) (s : State) : State :=
  if (s.channel c).source = .host then
    let ch := { s.channel c with fresh := false, freshTimer := none }
    if ch.state = .tracking then evalGaugeStale (s.setChannel c (enterState ch .stale))
    else s.setChannel c ch
  else s.setChannel c { s.channel c with fresh := true, freshTimer := none }

/-! ### Power transitions (R47, R48) -/

/-- Channel c at RUN entry (R47), which reads the freshness setting (R25). DEDUCED: log entry 21. -/
def channelRunEntry (c : Fin 8) (s : State) : State :=
  let s :=
    match (s.channel c).state with
    | .unhomed | .parked =>
        let s := enterHoming c s
        s.setChannel c { s.channel c with sweepDue := sweepOnProof s c }
    | .homing => s.setChannel c { s.channel c with parkDue := false, sweepDue := sweepOnProof s c }
    | .parking => s.setChannel c (enterState (s.channel c) .tracking)
    | _ => s
  let s := noteBad c (badSource s c || badFreshness s c) s
  if gaugeSource s c = .host ∧ (s.channel c).mode ≠ .hold then
    let f := freshness s c
    s.setChannel c { s.channel c with
      fresh := true, freshTimer := if f = 0 then none else some (s.now + f) }
  else s

/-- GAU at RUN entry (R47): the assertions are re-evaluated from clear. -/
def gauRunEntry (s : State) : State :=
  let s := forChannels channelRunEntry s
  let s := s.setGau { s.gau with faultAssert := false, staleAssert := false }
  evalGaugeStale (evalGaugeFault s)

/-- Channel c at STANDBY entry (R48). -/
def channelStandbyEntry (c : Fin 8) (s : State) : State :=
  let ch := s.channel c
  let ch :=
    match ch.state with
    | .tracking | .stale | .sweep => enterState ch .parking
    | .homing => { ch with parkDue := true, sweepDue := false }
    | _ => ch
  s.setChannel c { ch with freshTimer := none, fresh := true, warning := false }

/-- GAU at STANDBY entry (R48). -/
def gauStandbyEntry (s : State) : State :=
  let s := forChannels channelStandbyEntry s
  s.setGau { s.gau with faultAssert := false, staleAssert := false }

end Sys2Proof.Machine
end

