-- ==== Sys2Proof/Machine/Display.lean ====
section
/-! DEFINITION. SDU's shared operations: the font, the field table, icons, composition and the panel drive
(06_segment_display.md). -/

namespace Sys2Proof.Machine

/-! ### The font (R130) -/

/-- The segments of a character: bit 0 is a, bit 6 is g, bit 7 is dp. -/
abbrev Glyph := Byte

/-- The font. A code outside it is drawn blank. -/
def font : Nat → Glyph
  | 0x2D => 0x40
  | 0x30 => 0x3F
  | 0x31 => 0x06
  | 0x32 => 0x5B
  | 0x33 => 0x4F
  | 0x34 => 0x66
  | 0x35 => 0x6D
  | 0x36 => 0x7D
  | 0x37 => 0x07
  | 0x38 => 0x7F
  | 0x39 => 0x6F
  | 0x41 => 0x77
  | 0x43 => 0x39
  | 0x45 => 0x79
  | 0x46 => 0x71
  | 0x48 => 0x76
  | 0x49 => 0x30
  | 0x4A => 0x1E
  | 0x4C => 0x38
  | 0x50 => 0x73
  | 0x53 => 0x6D
  | 0x55 => 0x3E
  | 0x62 => 0x7C
  | 0x63 => 0x58
  | 0x64 => 0x5E
  | 0x68 => 0x74
  | 0x6E => 0x54
  | 0x6F => 0x5C
  | 0x72 => 0x50
  | 0x74 => 0x78
  | 0x75 => 0x1C
  | 0x79 => 0x6E
  | _ => 0x00

/-- A character code as drawn: from 80h up, the code 80h lower with the decimal point. DEDUCED: log entry 30. -/
def glyphOf (b : Byte) : Glyph := if b.toNat < 0x80 then font b.toNat else font (b.toNat - 0x80) ||| 0x80

def dashGlyph : Glyph := font 0x2D
def digitGlyph (d : Nat) : Glyph := font (0x30 + d)

/-- The letter of an activity (R130). -/
def activityGlyph : Activity → Glyph
  | .rest => font 0x72
  | .available => font 0x41
  | .work => font 0x48
  | .drive => font 0x64
  | .unknown => font 0x2D

/-! ### The field table (R126) -/

def displayBase : Nat := 0x810
def fieldBase (f : Nat) : Nat := displayBase + 160 + 8 * f

inductive Format
  | decimal | hmm | char
  deriving DecidableEq, Repr

/-- A field's settings as read from the table. -/
structure FieldSettings where
  source : Nat
  argument : Nat
  first : Nat
  count : Nat
  scale : Nat
  places : Nat
  blanking : Bool
  /-- None for a code without a format. -/
  format : Option Format
  blink : Nat
  deriving DecidableEq, Repr

def formatOf : Nat → Option Format
  | 0 => some .decimal
  | 1 => some .hmm
  | 2 => some .char
  | _ => none

def fieldSettings (s : State) (f : Nat) : FieldSettings :=
  let at_ := fun i => hostByte s (fieldBase f + i)
  { source := (at_ 0).toNat, argument := (at_ 1).toNat, first := (at_ 2).toNat, count := (at_ 3).toNat
    scale := 10 ^ field (at_ 4) 0 2, places := field (at_ 4) 4 2
    blanking := bit (at_ 5) 0, format := formatOf (field (at_ 5) 4 2), blink := (at_ 6).toNat }

/-- The source argument lies in the source's range (R126). -/
def argumentValid (source argument : Nat) : Bool :=
  if source = 10 then decide (argument ≤ 2)
  else if source = 11 then decide (argument ≤ 7)
  else if source = 12 then decide (argument ≤ 3)
  else true

/-- The source and the format agree (R126): 10 is ACTIVITY and 12 is TEXT. -/
def formatAgrees (source : Nat) : Option Format → Bool
  | none => false
  | some .decimal => source != 12
  | some .hmm => source != 12 && source != 10
  | some .char => source == 12 || source == 10

/-- The blink mode has a code: NONE, ALWAYS, or WHILE_CAUSE with a cause 0–52. -/
def blinkValid (b : Nat) : Bool := decide (b ≤ 1) || decide (0x80 ≤ b ∧ b ≤ 0x80 + 52)

/-- A field with a source other than OFF is valid (R126). -/
def FieldSettings.valid (x : FieldSettings) : Bool :=
  decide (1 ≤ x.source ∧ x.source ≤ 12) && argumentValid x.source x.argument &&
    decide (x.first ≤ 11 ∧ 1 ≤ x.count ∧ x.count ≤ 8 ∧ x.first + x.count ≤ 12) &&
    formatAgrees x.source x.format && blinkValid x.blink

/-! ### Source values (R127) -/

/-- The minute of day moved by the local offset, a signed 16-bit number from −720 to +840 (R126, R127). -/
def localMinute (minute raw : Nat) : Nat :=
  if raw ≤ 840 then (minute + raw) % 1440
  else if 65536 - 720 ≤ raw then (minute + 1440 - (65536 - raw)) % 1440
  else minute % 1440

/-- The local offset as the display section holds it. -/
def localOffset (s : State) : Nat := (hostByte s (fieldBase 1 + 7)).toNat + 256 * (hostByte s (fieldBase 2 + 7)).toNat

/-- The driver record read without a slot: the driving slot, or slot 1. -/
def shownDriver (s : State) : Driver := s.driver ((drivingSlot s).getD 0)

/-- The driver record an ACTIVITY field reads. -/
def activityDriver (s : State) (slot : Nat) : Driver :=
  if slot = 1 then s.driver 0 else if slot = 2 then s.driver 1 else shownDriver s

/-- The value of a numeric source; none when it has no value. DEDUCED: log entry 30. -/
def sourceValue (s : State) (source argument : Nat) : Option Nat :=
  match source with
  | 1 => some s.spd.odometer
  | 2 => some s.spd.tripA
  | 3 => some s.spd.tripB
  | 4 => some s.spd.vPub
  | 5 => if s.dtu.timeValid then some (localMinute s.dtu.minute (localOffset s)) else none
  | 6 => some (shownDriver s).remContinuous
  | 7 => some (shownDriver s).remDaily
  | 8 => some (shownDriver s).remWeekly
  | 9 => some (shownDriver s).remBreak
  | 10 => some (activityDriver s argument).activity.code
  | 11 =>
      if gaugeSource s (Fin.ofNat 8 argument) = .off then none else some (s.channel (Fin.ofNat 8 argument)).x
  | _ => none

/-! ### Formats (R128–R130) -/

/-- The decimal digits of a number, the first digit first, with at least one. -/
def decimalDigits : Nat → Nat → List Nat
  | 0, _ => []
  | k + 1, n => (if n / 10 = 0 then [] else decimalDigits k (n / 10)) ++ [n % 10]

/-- Digits padded with leading zeros to a length. -/
def padDigits (k : Nat) (ds : List Nat) : List Nat := List.replicate (k - ds.length) 0 ++ ds

/-- The cells left of a digit string. -/
def leading (blanking : Bool) (k : Nat) : List Glyph := List.replicate k (if blanking then 0 else digitGlyph 0)

/-- The decimal point is lit in the cell that holds the digit `places` positions from the right. -/
def lightPoint (places : Nat) (gs : List Glyph) : List Glyph :=
  if places = 0 then gs else gs.modify (gs.length - 1 - places) (· ||| 0x80)

/-- A DECIMAL field's cells, or none when it is overrange (R128). -/
def decimalCells (x : FieldSettings) (value : Nat) : Option (List Glyph) :=
  let ds := padDigits (x.places + 1) (decimalDigits 20 (value / x.scale))
  if x.count < ds.length then none
  else some (lightPoint x.places (leading x.blanking (x.count - ds.length) ++ ds.map digitGlyph))

/-- An H:MM field's cells, or none when it is overrange (R129). -/
def hmmCells (x : FieldSettings) (value : Nat) : Option (List Glyph) :=
  let t := value / x.scale
  let hs := decimalDigits 20 (t / 60)
  if x.count < hs.length + 2 then none
  else some (leading x.blanking (x.count - (hs.length + 2)) ++
    (hs ++ [t % 60 / 10, t % 60 % 10]).map digitGlyph)

/-- A CHAR field's cells (R130). -/
def charCells (s : State) (x : FieldSettings) : List Glyph :=
  if x.source = 12 then
    (s.sdu.texts[(Fin.ofNat 4 x.argument : Fin 4)].toList.take x.count).map glyphOf
  else activityGlyph (activityDriver s x.argument).activity :: List.replicate (x.count - 1) 0

/-! ### Field states and precedence (R131, R132, R134) -/

/-- What a compose event makes of one field before precedence: its state, its run of cells, their characters, whether it
blinks and whether its colon is lit. -/
structure FieldOut where
  state : FieldState
  first : Nat
  glyphs : List Glyph
  blinking : Bool
  colon : Bool
  deriving DecidableEq, Repr

/-- The blinking of a field that claims cells (R134). -/
def blinks (s : State) (mode : Nat) : Bool :=
  mode == 1 || (decide (0x80 ≤ mode) && decide ((s.causeOf (Fin.ofNat 53 (mode - 0x80))).state = .active))

/-- A field at a compose event (R131). DEDUCED: log entry 30. A field in OFF or INVALID does not blink (DESIGN CHOICE: log
entry 44). -/
def composeField (s : State) (f : Nat) : FieldOut :=
  let x := fieldSettings s f
  let silent := fun st => ({ state := st, first := 0, glyphs := [], blinking := false, colon := false } : FieldOut)
  let shows := fun st gs =>
    ({ state := st, first := x.first, glyphs := gs, blinking := blinks s x.blink
       colon := decide (st = .shown ∧ x.format = some .hmm) } : FieldOut)
  let dashes := List.replicate x.count dashGlyph
  if x.source = 0 then silent .off
  else if !x.valid then silent .invalid
  else if x.format = some .char then shows .shown (charCells s x)
  else
    match sourceValue s x.source x.argument with
    | none => shows .noData dashes
    | some v =>
        match (if x.format = some .hmm then hmmCells x v else decimalCells x v) with
        | none => shows .overrange dashes
        | some gs => shows .shown gs

/-- The sixteen fields at a compose event. -/
def composeFields (s : State) : Vector FieldOut 16 := Vector.ofFn fun f => composeField s f.val

/-- A field claims a cell. -/
def FieldOut.claims (x : FieldOut) (k : Nat) : Bool := decide (x.first ≤ k ∧ k < x.first + x.glyphs.length)

/-- The field that wins a cell: the lowest-numbered one that claims it. -/
def cellWinner (fs : Vector FieldOut 16) (k : Nat) : Option (Fin 16) :=
  (List.finRange 16).find? fun f => fs[f].claims k

/-- The field record that a compose event writes. -/
def fieldRecord (fs : Vector FieldOut 16) (f : Fin 16) : FieldRecord where
  state := fs[f].state
  blinking := fs[f].blinking
  won := (List.range 12).countP fun k => cellWinner fs k == some f

/-! ### Positions and icons (R125, R133) -/

/-- One lit segment or icon: its coordinate byte and whether it is blink-maskable. -/
structure Stroke where
  coordinate : Byte
  maskable : Bool
  deriving DecidableEq, Repr

/-- The strokes of one cell. -/
def cellStrokes (s : State) (fs : Vector FieldOut 16) (k : Nat) : List Stroke :=
  match cellWinner fs k with
  | none => []
  | some f =>
      let g := fs[f].glyphs.getD (k - fs[f].first) 0
      ((List.range 8).filter (bit g)).map fun j => ⟨hostByte s (displayBase + 8 * k + j), fs[f].blinking⟩

/-- Whether an icon with a binding is lit, and whether it is blink-maskable (R133). -/
def iconLit (s : State) (fs : Vector FieldOut 16) (b : Nat) : Bool × Bool :=
  if 1 ≤ b ∧ b ≤ 0x30 then (s.ttu.lamps[(Fin.ofNat 48 (b - 1) : Fin 48)].lit, false)
  else if 0x31 ≤ b ∧ b ≤ 0x3A then
    let i := b - 0x31
    ((s.driver (Fin.ofNat 2 (i / 5))).activity.code == i % 5, false)
  else if b = 0x3B then ((s.driver 0).present, false)
  else if b = 0x3C then ((s.driver 1).present, false)
  else if 0x3D ≤ b ∧ b ≤ 0x4C then
    let f : Fin 16 := Fin.ofNat 16 (b - 0x3D)
    (fs[f].colon, fs[f].blinking)
  else if b = 0x4D then (s.dtu.timeValid, false)
  else (false, false)

/-- The stroke of one icon. -/
def iconStrokes (s : State) (fs : Vector FieldOut 16) (i : Nat) : List Stroke :=
  let a := displayBase + 96 + 2 * i
  let r := iconLit s fs (hostByte s (a + 1)).toNat
  if r.1 then [⟨hostByte s a, r.2⟩] else []

/-- A position lit: SEG in bits 0–5 and COM in bits 6–7; a SEG above 51 is unplaced (R125, R209). -/
def lightAt (img : Image) (coordinate : Byte) : Image :=
  let seg := field coordinate 0 6
  let com : Fin 4 := Fin.ofNat 4 (field coordinate 6 2)
  if seg ≤ 51 then vset img com (img[com] ||| BitVec.ofNat 52 (2 ^ seg)) else img

/-- The image of a list of strokes. -/
def imageOf (xs : List Stroke) : Image := xs.foldl (fun img x => lightAt img x.coordinate) Image.dark

/-- The positions of the first image that the second does not have. -/
def Image.minus (a b : Image) : Image := vmap (fun i r => r &&& ~~~ b[i]) a

def Image.full : Image := Vector.replicate 4 (BitVec.allOnes 52)

/-- The composed contents as the blink phase shows them (R134). -/
def shownImage (blinkOn : Bool) (composed maskable : Image) : Image :=
  if blinkOn then composed else composed.minus maskable

/-! ### Events (R124, R134–R138) -/

/-- The compose count counts one. DEDUCED: log entry 15. -/
def countCompose (s : State) : State := s.setSdu { s.sdu with count := (s.sdu.count + 1) % 256 }

/-- The compose event (R135). It acts in RUN. -/
def compose (s : State) : State :=
  if inRun s then
    let fs := composeFields s
    let strokes := ((List.range 12).map (cellStrokes s fs)).flatten ++ ((List.range 32).map (iconStrokes s fs)).flatten
    let lit := imageOf strokes
    let steady := imageOf (strokes.filter fun x => !x.maskable)
    let maskable := lit.minus steady
    countCompose (s.setSdu { s.sdu with
      fields := Vector.ofFn (fieldRecord fs), composed := lit, maskable := maskable
      image := if inNormal s then shownImage s.sdu.blinkOn lit maskable else Image.full })
  else s

/-- The blink step (R134): the phase steps through RUN, and the image is rebuilt in NORMAL. -/
def stepBlink (s : State) : State :=
  if inRun s then
    let s := s.setSdu { s.sdu with blinkOn := !s.sdu.blinkOn }
    if inNormal s then
      countCompose (s.setSdu { s.sdu with image := shownImage s.sdu.blinkOn s.sdu.composed s.sdu.maskable })
    else s
  else s

/-- The frame rate code (R124): a code above 3 is used as 1. -/
def frameRateCode (s : State) : Nat := inRange 0 3 1 (hostByte s (fieldBase 0 + 7)).toNat

/-- A frame start (R124): the drive latches the image and the rate. No frame starts while the panel is UNDRIVEN.
DEDUCED: log entry 8. -/
def startFrame (inverted : Bool) (s : State) : State :=
  if s.sdu.panel = .undriven then s
  else s.setSdu { s.sdu with
    rate := frameRateCode s
    drive := { image := s.sdu.image, inverted := inverted, nextInverted := !inverted } }

/-- SDU at RUN entry (R137): frames start in normal polarity. -/
def sduRunEntry (s : State) : State :=
  startFrame false (countCompose (s.setSdu { s.sdu with panel := .allOn, image := Image.full, blinkOn := true }))

/-- SDU at the change from PROOF to NORMAL (R137): the contents composed last are shown, texts taken in STANDBY among them.
DEDUCED: log entry 45. -/
def sduProofEnd (s : State) : State :=
  countCompose (s.setSdu { s.sdu with
    panel := .composed, image := shownImage s.sdu.blinkOn s.sdu.composed s.sdu.maskable })

/-- SDU at STANDBY entry (R138). -/
def sduStandbyEntry (s : State) : State :=
  countCompose (s.setSdu { s.sdu with
    panel := .undriven, composed := Image.dark, maskable := Image.dark, image := Image.dark })

/-- The take of text record n (R136). -/
def takeText (n : Fin 4) (s : State) : State :=
  let a := 0x1C0 + 16 * n.val
  let s := s.setLnk { s.lnk with textEcho := vset s.lnk.textEcho n (hostByte s a) }
  s.setSdu { s.sdu with texts := vset s.sdu.texts n (Vector.ofFn fun i : Fin 12 => hostByte s (a + 1 + i.val)) }

end Sys2Proof.Machine
end

