-- ==== Sys2Proof/Machine/DisplayCommands.lean ====
section
/-! DEFINITION. The meanings of SDU's rows. -/

namespace Sys2Proof.Machine

/-- COMPOSE_EVENT (R135). -/
def execComposeEvent (t : Nat) (s : State) : Host.Outcome State Fault Refusal :=
  live t compose s

/-- BLINK_STEP (R134). -/
def execBlinkStep (t : Nat) (s : State) : Host.Outcome State Fault Refusal :=
  live t stepBlink s

/-- FRAME_START (R124): successive frames alternate in polarity. -/
def execFrameStart (t : Nat) (s : State) : Host.Outcome State Fault Refusal :=
  live t (fun s => startFrame s.sdu.drive.nextInverted s) s

end Sys2Proof.Machine
end

