-- ==== Sys2Proof/Machine/GaugeCommands.lean ====
section
/-! DEFINITION. The meanings of GAU's rows. -/

namespace Sys2Proof.Machine

/-- FILTER_EVENT (R33): every channel, in every power state after LOADING. -/
def execFilterEvent (t : Nat) (s : State) : Host.Outcome State Fault Refusal :=
  live t (fun s => onlyIf (!inLoading s) (forChannels filterChannel) s) s

/-- STEP_EVENT (R35). `silent` names the channels whose undriven coil reads MISSING if it is sampled. -/
def execStepEvent (t : Nat) (silent : List (Fin 8)) (s : State) : Host.Outcome State Fault Refusal :=
  live t (fun s => onlyIf (!inLoading s) (forChannels fun c => stepChannel (decide (c ∈ silent)) c) s) s

/-- The step event of channel c is the one at which its homing count reaches 0 (R38). DESIGN CHOICE: log entry 28. -/
def homingEnds (c : Fin 8) (s : State) : Bool :=
  !inLoading s && (s.channel c).state == .homing && !s.psc.low && decide ((s.channel c).count ≤ homingSpeed s c)

/-- HOMING_END (R38). -/
def execHomingEnd (t : Nat) (c : Fin 8) (s : State) : Host.Outcome State Fault Refusal :=
  live t (fun s => onlyIf (homingEnds c s) (stepChannel false c) s) s

/-- FRESHNESS_EXPIRY (R30). -/
def execFreshnessExpiry (t : Nat) (c : Fin 8) (s : State) : Host.Outcome State Fault Refusal :=
  live t (fun s => onlyIf (expired s.now (s.channel c).freshTimer) (expireFreshness c) s) s

end Sys2Proof.Machine
end

