-- ==== Sys2Proof/Machine/TachoLine.lean ====
section
/-! DEFINITION. TLR's shared operations: frame assembly, judging, valid frames and the line state
(04_the_tachograph_line.md). -/

namespace Sys2Proof.Machine

/-! ### The line state (R90–R92) -/

/-- Why the line state changed (R92, R206). -/
inductive LineReason
  | frame | timeout | wake
  deriving DecidableEq, Repr

def LineReason.code : LineReason → Nat
  | .frame => 0
  | .timeout => 1
  | .wake => 2

/-- The line-lost assertion is re-evaluated (R92): set while the line is LOST and the power state is RUN. -/
def evalLineLost (s : State) : State :=
  let was := s.tlr.lostAssert
  let isNow := s.tlr.line == .lost && inRun s
  sendAssertion 44 none was isNow (s.setTlr { s.tlr with lostAssert := isNow })

/-- A change of line state (R92): to DTU, to the journal and to the assertion. DEDUCED: log entry 13. -/
def lineChange (new : LineState) (why : LineReason) (s : State) : State :=
  let old := s.tlr.line
  let s := lineToDtu new (s.setTlr { s.tlr with line := new })
  let s := post .lineState ([u8 new.code, u8 old.code, u8 why.code] ++ le 2 (sinceFrame s)) s
  evalLineLost s

/-- The line timer starts or restarts (R90): the reference instant plus the timeout of the power state in force. -/
def startLineTimer (s : State) : State :=
  s.setTlr { s.tlr with lineTimer := some (s.tlr.reference + lineTimeout s) }

/-- The line timer's expiry (R90). -/
def expireLineTimer (s : State) : State := lineChange .lost .timeout (s.setTlr { s.tlr with lineTimer := none })

/-! ### Frames (R85–R89) -/

/-- The driver index of a frame's slot byte. -/
def frameSlot (b : Byte) : Fin 2 := if b.toNat = 2 then 1 else 0

/-- The fields of a CARD payload (R87). -/
def cardFields (p : List Byte) : CardFields where
  slot := p.getD 0 0
  event := p.getD 1 0
  holder := BitVec.ofNat 32 (ofLe ((p.drop 2).take 4))
  continuous := BitVec.ofNat 16 (ofLe ((p.drop 6).take 2))
  daily := BitVec.ofNat 16 (ofLe ((p.drop 8).take 2))
  weekly := BitVec.ofNat 16 (ofLe ((p.drop 10).take 2))
  extensions := p.getD 12 0
  breakState := p.getD 13 0

/-- The payload of CARD fields. -/
def cardPayload (f : CardFields) : List Byte :=
  [f.slot, f.event] ++ le 4 f.holder.toNat ++ le 2 f.continuous.toNat ++ le 2 f.daily.toNat ++
    le 2 f.weekly.toNat ++ [f.extensions, f.breakState]

/-- The payload length of a known type (R84). -/
def frameLength (type : Byte) : Option Nat :=
  if type = 0x10 then some 5
  else if type = 0x11 then some 4
  else if type = 0x12 then some 14
  else if type = 0x13 then some 3
  else none

/-- Every payload field lies in its type's range (R85–R88). -/
def fieldsInRange (type : Byte) (p : List Byte) : Bool :=
  if type = 0x10 then
    decide (ofLe ((p.drop 2).take 2) ≤ 1439) && decide ((p.getD 4 0).toNat ≤ 59)
  else if type = 0x11 then
    decide (1 ≤ (p.getD 0 0).toNat ∧ (p.getD 0 0).toNat ≤ 2) && decide ((p.getD 1 0).toNat ≤ 3) &&
      decide (ofLe ((p.drop 2).take 2) ≤ 1439)
  else if type = 0x12 then
    decide (1 ≤ (p.getD 0 0).toNat ∧ (p.getD 0 0).toNat ≤ 2) && decide ((p.getD 1 0).toNat ≤ 1) &&
      ((p.getD 1 0).toNat == 0 || decide ((p.getD 13 0).toNat ≤ 1))
  else decide ((p.getD 0 0).toNat ≤ 3) && decide ((p.getD 1 0).toNat ≤ 3)

/-- DTU receives a valid frame (R89, step 3). -/
def handFrame (type : Byte) (p : List Byte) (s : State) : State :=
  if type = 0x10 then
    setClock (ofLe (p.take 2)) (ofLe ((p.drop 2).take 2)) (p.getD 4 0).toNat 0 s
  else if type = 0x11 then
    activityToDtu (frameSlot (p.getD 0 0)) (Activity.ofCode (p.getD 1 0).toNat) (ofLe ((p.drop 2).take 2)) s
  else if type = 0x12 then
    let f := cardFields p
    if f.event = 1 then cardInsert (frameSlot f.slot) f s else cardWithdraw (frameSlot f.slot) s
  else
    presenceToDtu (Activity.ofCode (p.getD 0 0).toNat) (Activity.ofCode (p.getD 1 0).toNat) (p.getD 2 0) s

/-- A valid frame (R89), in its five steps. -/
def validFrame (type : Byte) (p : List Byte) (s : State) : State :=
  let s := s.setTlr { s.tlr with lastFrame := some (s.now, type), reference := s.now }
  let s := if s.tlr.line = .alive then s else lineChange .alive .frame s
  let s := handFrame type p s
  let s := startLineTimer s
  s.setTlr { s.tlr with mirrorTime := 0 }

/-- The first failing test of a frame (R84): 0 BAD_CHECK, 1 UNKNOWN_TYPE, 2 BAD_LENGTH, 3 BAD_FIELD. -/
def frameError (type : Byte) (len : Nat) (sum : Nat) (p : List Byte) : Option Nat :=
  if sum ≠ 0 then some 0
  else
    match frameLength type with
    | none => some 1
    | some k => if len ≠ k then some 2 else if fieldsInRange type p then none else some 3

/-- The receiver returns to HUNT with an empty buffer and the byte gap timer stopped. -/
def toHunt (s : State) : State :=
  s.setTlr { s.tlr with
    rx := .hunt, frameType := 0, len := 0, payload := [], count := 0, sum := 0, gapTimer := none }

/-- A frame is judged (R84). -/
def judgeFrame (type len : Byte) (sum : Nat) (p : List Byte) (s : State) : State :=
  match frameError type len.toNat sum p with
  | none => validFrame type p s
  | some reason =>
      let s := s.setTlr { s.tlr with errors := satAdd 65535 s.tlr.errors 1 }
      post .lineError ([u8 reason, type, len] ++ le 2 s.tlr.errors) s

/-- The receiver listens: after LOADING, and not while it waits for an idle line (R80, R81). -/
def listening (s : State) : Bool := !inLoading s && !s.tlr.waitIdle

/-- The CHECK byte of a whole frame with a correct sum completes. DESIGN CHOICE: log entry 28. -/
def frameEnd (type : Byte) (p : List Byte) (s : State) : State :=
  if listening s then judgeFrame type (u8 p.length) 0 p (toHunt s) else s

/-! ### Frame assembly (R81–R83) -/

/-- The byte gap: 10 ms. -/
def byteGap : Nat := 10000

/-- A completed byte moves the receive state (R82). -/
def receiveByte (b : Byte) (s : State) : State :=
  let r := s.tlr
  let sum := (r.sum + b.toNat) % 256
  let gap := some (s.now + byteGap)
  match r.rx with
  | .hunt =>
      if b = 0x96 then
        s.setTlr { r with
          rx := .type, frameType := 0, len := 0, payload := [], count := 0, sum := 0, gapTimer := gap }
      else s
  | .type => s.setTlr { r with rx := .length, frameType := b, sum := sum, gapTimer := gap }
  | .length =>
      s.setTlr { r with rx := if b = 0 then .check else .payload, len := b, sum := sum, gapTimer := gap }
  | .payload =>
      s.setTlr { r with
        rx := if r.len.toNat ≤ r.count + 1 then .check else .payload
        payload := if r.payload.length < 14 then r.payload ++ [b] else r.payload
        count := r.count + 1, sum := sum, gapTimer := gap }
  | .check => judgeFrame r.frameType r.len sum r.payload (toHunt s)

/-- The sample of a stop bit (R81): high completes the byte; low discards the byte and the frame. -/
def stopBit (b : Byte) (high : Bool) (s : State) : State :=
  if !listening s then s
  else if high then receiveByte b s
  else
    let s := toHunt s
    s.setTlr { s.tlr with waitIdle := true }

/-! ### Power transitions (R80, R93) -/

/-- TLR at the end of LOADING (R80). -/
def tlrLoadingEnd (s : State) : State :=
  startLineTimer (s.setTlr { s.tlr with reference := s.now, mirrorTime := 65535 })

/-- TLR at STANDBY entry (R93). -/
def tlrStandbyEntry (s : State) : State :=
  let s := if s.tlr.lineTimer.isSome then startLineTimer s else s
  s.setTlr { s.tlr with lostAssert := false }

/-- TLR at RUN entry from STANDBY (R93). -/
def tlrRunEntry (s : State) : State :=
  let s := if s.tlr.line = .unknown then s else lineChange .unknown .wake s
  startLineTimer (s.setTlr { s.tlr with reference := s.now })

end Sys2Proof.Machine
end

