-- ==== Sys2Proof/Machine/LineCommands.lean ====
section
/-! DEFINITION. The meanings of TLR's rows. -/

namespace Sys2Proof.Machine

/-- BYTE_COMPLETION (R81, R82). -/
def execByteCompletion (t : Nat) (b : Byte) (stopHigh : Bool) (s : State) : Host.Outcome State Fault Refusal :=
  live t (stopBit b stopHigh) s

/-- TIME_FRAME (R85, R89): the completion of the frame's CHECK byte. -/
def execTimeFrame (t : Nat) (day minute : BitVec 16) (second : Byte) (s : State) : Host.Outcome State Fault Refusal :=
  live t (frameEnd 0x10 (le 2 day.toNat ++ le 2 minute.toNat ++ [second])) s

/-- ACTIVITY_FRAME (R86, R89). -/
def execActivityFrame (t : Nat) (slot activity : Byte) (minute : BitVec 16) (s : State) : Host.Outcome State Fault Refusal :=
  live t (frameEnd 0x11 ([slot, activity] ++ le 2 minute.toNat)) s

/-- CARD_FRAME (R87, R89). -/
def execCardFrame (t : Nat) (f : CardFields) (s : State) : Host.Outcome State Fault Refusal :=
  live t (frameEnd 0x12 (cardPayload f)) s

/-- PRESENCE_FRAME (R88, R89). -/
def execPresenceFrame (t : Nat) (activity1 activity2 flags : Byte) (s : State) : Host.Outcome State Fault Refusal :=
  live t (frameEnd 0x13 [activity1, activity2, flags]) s

/-- BYTE_GAP_EXPIRY (R83). -/
def execByteGapExpiry (t : Nat) (s : State) : Host.Outcome State Fault Refusal :=
  live t (fun s => onlyIf (expired s.now s.tlr.gapTimer) toHunt s) s

/-- LINE_TIMER_EXPIRY (R90). -/
def execLineTimerExpiry (t : Nat) (s : State) : Host.Outcome State Fault Refusal :=
  live t (fun s => onlyIf (expired s.now s.tlr.lineTimer) expireLineTimer s) s

/-- LINE_MIRROR_UPDATE (R94). -/
def execLineMirrorUpdate (t : Nat) (s : State) : Host.Outcome State Fault Refusal :=
  live t (fun s => onlyIf (!inLoading s) (fun s => s.setTlr { s.tlr with mirrorTime := sinceFrame s }) s) s

/-- LINE_IDLE_AFTER_STOP_BIT_ERROR (R81). -/
def execLineIdleAfterStopBitError (t : Nat) (s : State) : Host.Outcome State Fault Refusal :=
  live t (fun s => s.setTlr { s.tlr with waitIdle := false }) s

end Sys2Proof.Machine
end

