-- ==== Sys2Proof/Machine/Mirrors.lean ====
section
/-! DEFINITION. The exchange memory as a READ sees it: the region map (R165), the layouts of the part-owned regions
(R205, R206) computed from the blocks' state, and line capture (R167). -/

namespace Sys2Proof.Machine

/-! ### The region map (R165) -/

/-- Who writes a byte of the exchange memory. -/
inductive Owner
  | host | part | unassigned
  deriving DecidableEq, Repr

/-- The size of the exchange memory. -/
def exchangeSize : Nat := 8192

/-- The writer of the byte at an address (R165). -/
def ownerOf (a : Nat) : Owner :=
  if a < 0x40 then .part
  else if a < 0xC0 then (if a % 16 < 12 then .host else .part)
  else if a < 0xC2 then .host
  else if a < 0x100 then .unassigned
  else if a < 0x200 then .host
  else if a < 0x240 then .part
  else if a < 0x400 then .unassigned
  else if a < 0xC00 then .host
  else if a < 0xCC0 then .part
  else if a < 0xD00 then .unassigned
  else if a < 0xE80 then .part
  else if a < 0xEA0 then .part
  else if a < 0xF00 then .unassigned
  else if a < 0xF80 then .part
  else if a < 0x1000 then .unassigned
  else if a < 0x1240 then .part
  else if a < 0x1400 then .unassigned
  else if a < 0x1600 then (if a % 16 = 1 then .host else .part)
  else .unassigned

/-! ### The lines of each region (R205, R206) -/

/-- The header, line by line. -/
def headerLine (s : State) (l : Nat) : List Byte :=
  match l with
  | 0 =>
      le 2 0x3208 ++ [0x01, u8 s.psc.cause.code, u8 s.psc.power.code, u8 (flag s.psc.low),
        u8 (flag s.nvs.loadDefaulted), u8 (nvsHeader s)] ++ le 2 s.nvs.bitmap ++
        [u8 (classCount s 0), u8 (classCount s 1), u8 (classCount s 2), u8 (classCount s 3)]
  | 1 => le 2 s.dtu.day ++ le 2 s.dtu.minute ++ [u8 s.dtu.second, u8 (flag s.dtu.timeValid)]
  | 2 =>
      [u8 s.lnk.cursor] ++ le 2 s.lnk.postCounter ++ [u8 s.lnk.backlog.length] ++ le 2 (backlogBitmap s)
  | _ => []

/-- Order slot k: its host bytes, then echo, result and detail (R204). -/
def orderLine (s : State) (k : Fin 8) : List Byte :=
  Memory.readList 0 s.host (orderAddr k) 12 ++ [(s.orderSlot k).echo, (s.orderSlot k).result] ++
    le 2 (s.orderSlot k).detail

/-- The echo block (R204). -/
def echoLine (s : State) (l : Nat) : List Byte :=
  match l with
  | 0 => s.lnk.causeEcho.toList.take 16
  | 1 => s.lnk.causeEcho.toList.drop 16
  | 2 => s.lnk.gaugeEcho.toList ++ s.lnk.textEcho.toList
  | _ => []

/-- The calibration section (R163). -/
def calibrationLine (s : State) : List Byte :=
  le 2 s.nvs.pulse ++ [u8 (flag s.nvs.locked), u8 (flag (!s.nvs.locked))] ++ le 2 s.nvs.calPtr

/-- The speed and distance mirror (R23). -/
def speedLine (s : State) (l : Nat) : List Byte :=
  match l with
  | 0 =>
      le 2 s.spd.vPub ++ [u8 s.spd.gateState.code, u8 (flag s.spd.moving), u8 s.spd.hold, 0] ++
        le 2 s.spd.lastN ++ le 4 s.spd.lastTsum ++ le 2 s.spd.rejected
  | _ => le 4 s.spd.odometer ++ le 4 s.spd.tripA ++ le 4 s.spd.tripB ++ le 2 s.spd.remainder

/-- The gauge mirror's line of a channel (R35, R50). -/
def gaugeLine (x : Channel) : List Byte :=
  [u8 x.state.code, gaugeFlags x, u8 x.mode.code, u8 (flag (x.dir == .up))] ++ le 2 x.x ++ le 2 x.demand ++
    le 2 x.motionTarget ++ le 2 x.pos ++ [u8 x.vel, u8 x.stallCount] ++ le 2 x.aMax

/-- A cause's entry of the cause mirror (R79); entries 53–63 read 00h. -/
def causeEntry (s : State) (n : Nat) : List Byte :=
  if h : n < 53 then
    let c := s.causeOf ⟨n, h⟩
    [u8 c.state.code, u8 c.cls, c.argument, u8 (flag c.dropped)]
  else [0, 0, 0, 0]

/-- A lamp's byte of the lamp mirror (R79). -/
def lampByte (x : Lamp) : Byte :=
  u8 (flag x.lit + 2 * flag x.output + 4 * x.pattern.code + 16 * flag x.isOpen + 32 * flag x.hold)

/-- The lamp mirror. -/
def lampLine (s : State) (l : Nat) : List Byte :=
  if l < 3 then (s.ttu.lamps.toList.drop (16 * l)).take 16 |>.map lampByte
  else [u8 s.ttu.blink, u8 (flag s.ttu.lampTest.isSome)] ++ le 2 s.ttu.testLeft ++ [u8 (openCount s)]

/-- The on-period count byte: a count above 255 has no stated byte (log entry 4). -/
def onPeriodByte (n : Nat) : Byte := if n ≤ 255 then u8 n else Config.onCountByte n

/-- The sounder mirror (R79). -/
def sounderLine (s : State) (l : Nat) : List Byte :=
  match l with
  | 0 =>
      (match s.ttu.playing with
      | some p =>
          [1, u8 p.request.cause.val, u8 p.request.cls, u8 p.request.pattern, onPeriodByte p.onCount,
            u8 (flag p.isOn)]
      | none => [0, 0, 0, 0, 0, 0]) ++
        [u8 (flag s.ttu.silence.isSome), u8 (reasonNotFree s), u8 s.ttu.queue.length]
  | 1 => (s.ttu.queue.map (fun r : Request => u8 r.cause.val) ++ List.replicate 16 0xFF).take 16
  | _ => []

/-- The line mirror (R94). -/
def tlrLine (s : State) : List Byte :=
  [u8 s.tlr.line.code, match s.tlr.lastFrame with
    | some (_, type) => type
    | none => 0] ++ le 2 s.tlr.errors ++ le 2 s.tlr.mirrorTime

/-- A driver record, line by line (R122). The report source byte of an absent report is 0. DESIGN CHOICE: log entry 48. -/
def driverLine (s : State) (i : Fin 2) (l : Nat) : List Byte :=
  let d := s.driver i
  match l with
  | 0 => [u8 (flag d.present), u8 (flag d.holderValid)] ++ le 4 d.holder
  | 1 =>
      [u8 d.activity.code, u8 d.source.code] ++ le 2 d.sinceDay ++ le 2 d.sinceMinute ++
        (match d.report with
        | some (a, src) => [u8 a.code, u8 src.code]
        | none => [0xFF, 0])
  | 2 =>
      le 2 d.cd ++ le 2 d.dd ++ le 2 d.wd ++ le 2 d.br ++
        [u8 (flag d.firstPart), u8 (flag d.extended), u8 d.extensions,
          u8 (flag d.flags.contPre + 2 * flag d.flags.contLimit + 4 * flag d.flags.dailyPre +
            8 * flag d.flags.dailyLimit + 16 * flag d.flags.weeklyLimit), u8 (flag d.restored)]
  | _ =>
      le 2 d.remContinuous ++ le 2 d.remDaily ++ le 2 d.remWeekly ++ le 2 d.remBreak ++
        [u8 d.logCount, u8 d.logHead, u8 (flag s.dtu.profileDefaulted)]

/-- An activity log entry (R205). -/
def logBytes (e : LogEntry) : List Byte :=
  [activityByte (e.activity, e.source), u8 (flag e.gap + 2 * flag e.conflict)] ++
    le 2 e.startDay ++ le 2 e.startMinute ++ le 2 e.duration

/-- The 52 bits of an image row in 7 bytes. -/
def rowBytes (r : BitVec 52) : List Byte := le 7 r.toNat

/-- The display mirror (R139). -/
def displayLine (s : State) (l : Nat) : List Byte :=
  match l with
  | 0 => rowBytes s.sdu.image[(0 : Fin 4)] ++ rowBytes s.sdu.image[(1 : Fin 4)] ++ [0, u8 s.sdu.count]
  | 1 => rowBytes s.sdu.image[(2 : Fin 4)] ++ rowBytes s.sdu.image[(3 : Fin 4)] ++ [0, u8 s.sdu.count]
  | 2 => s.sdu.fields.toList.map fun f => u8 (f.state.code + 8 * flag f.blinking + 16 * f.won)
  | _ => padTo 15 [u8 (flag s.sdu.blinkOn), u8 s.sdu.panel.code, u8 s.sdu.rate] ++ [u8 s.sdu.count]

/-- A journal slot (R206). -/
def journalLine (s : State) (j : Fin 32) : List Byte :=
  let x := s.lnk.journal[j]
  [x.post, clearMark s j, u8 (x.kind.code + 16 * (x.day / 32)), u8 x.fold] ++ le 2 x.sequence ++
    le 2 (x.minute + 2048 * (x.day % 32)) ++ x.payload

/-! ### Lines and bytes -/

/-- The fields of the line with a number, the aligned 16 bytes; a byte after the last field reads 00h (R202). -/
def lineFields (s : State) (n : Nat) : List Byte :=
  if n < 0x4 then headerLine s n
  else if n < 0xC then orderLine s (Fin.ofNat 8 (n - 4))
  else if n = 0xC then Memory.readList 0 s.host 0xC0 2
  else if n < 0x10 then []
  else if n < 0x20 then Memory.readList 0 s.host (16 * n) 16
  else if n < 0x24 then echoLine s (n - 0x20)
  else if n < 0x40 then []
  else if n < 0xC0 then Memory.readList 0 s.host (16 * n) 16
  else if n = 0xC0 then calibrationLine s
  else if n = 0xC1 then []
  else if n < 0xC4 then speedLine s (n - 0xC2)
  else if n < 0xCC then gaugeLine (s.channel (Fin.ofNat 8 (n - 0xC4)))
  else if n < 0xD0 then []
  else if n < 0xE0 then
    let k := 4 * (n - 0xD0)
    causeEntry s k ++ causeEntry s (k + 1) ++ causeEntry s (k + 2) ++ causeEntry s (k + 3)
  else if n < 0xE4 then lampLine s (n - 0xE0)
  else if n < 0xE8 then sounderLine s (n - 0xE4)
  else if n = 0xE8 then tlrLine s
  else if n < 0xF0 then []
  else if n < 0xF8 then driverLine s (Fin.ofNat 2 ((n - 0xF0) / 4)) ((n - 0xF0) % 4)
  else if n < 0x100 then []
  else if n < 0x120 then
    let d := s.driver (Fin.ofNat 2 ((n - 0x100) / 16))
    let k := 2 * ((n - 0x100) % 16)
    logBytes d.log[(Fin.ofNat 32 k : Fin 32)] ++ logBytes d.log[(Fin.ofNat 32 (k + 1) : Fin 32)]
  else if n < 0x124 then displayLine s (n - 0x120)
  else if n < 0x140 then []
  else if n < 0x160 then journalLine s (Fin.ofNat 32 (n - 0x140))
  else []

/-- A line of the exchange memory as it stands. -/
def exchangeLine (s : State) (n : Nat) : List Byte := padTo 16 (lineFields s n)

/-- A byte of the exchange memory as it stands; unassigned bytes read 00h. DESIGN CHOICE: log entry 32. -/
def exchangeByte (s : State) (a : Nat) : Byte := (exchangeLine s (a / 16)).getD (a % 16) 0

/-- A capture of a line (R167): all FFh while READY is clear. -/
def captureLine (s : State) (n : Nat) : List Byte :=
  if inLoading s then List.replicate 16 0xFF else exchangeLine s n

end Sys2Proof.Machine
end

