-- ==== Sys2Proof/Machine/Speed.lean ====
section
/-! DEFINITION. SPD's shared operations: edges, gates, decay and stall, the moving flag, causes 40 and 41, distance
(01_road_speed_and_distance.md). -/

namespace Sys2Proof.Machine

/-! ### Speed (R7, R10) -/

/-- The speed ceiling, 250.00 km/h. -/
def speedCeiling : Nat := 25000

/-- The motion threshold and the overspeed hysteresis, 2.00 km/h (R2). -/
def motionThreshold : Nat := 200
def overspeedHysteresis : Nat := 200

/-- The rejected edges of one gate that make noise (R2). -/
def noiseThreshold : Nat := 8

/-- The speed of a gate (R7), clamped. -/
def gateSpeed (n p tsum : Nat) : Nat := min speedCeiling (360000000000 * n / (p * tsum))

/-- The decay bound (R10). -/
def decayBound (p e : Nat) : Nat := 360000000000 / (p * e)

/-! ### Causes 40 and 41 (R9, R14) -/

/-- The overspeed assertion of a threshold and a published speed (R14). -/
def overspeedDecision (threshold v : Nat) (was : Bool) : Bool :=
  if threshold = 0 then false
  else if threshold ≤ v then true
  else if v + overspeedHysteresis < threshold ∨ v = 0 then false
  else was

/-- Cause 40 is evaluated (R14). -/
def evalOverspeed (s : State) : State :=
  let was := s.spd.overspeed
  let isNow := overspeedDecision (overspeedThreshold s) s.spd.vPub was
  sendAssertion 40 none was isNow (s.setSpd { s.spd with overspeed := isNow })

/-- The noise assertion after a gate with so many rejected edges (R9). -/
def noiseDecision (rejected : Nat) (was : Bool) : Bool :=
  if noiseThreshold ≤ rejected then true else if rejected = 0 then false else was

/-- The rejected count of a closing gate is examined (R9). -/
def evalNoise (rejected : Nat) (s : State) : State :=
  let was := s.spd.noise
  let isNow := noiseDecision rejected was
  sendAssertion 41 none was isNow (s.setSpd { s.spd with noise := isNow })

/-! ### Gates (R6–R8, R12) -/

/-- A gate opens at an edge. -/
def openGate (s : State) : State :=
  s.setSpd { s.spd with gate := some { openedAt := s.now, n := 0, rejected := 0 } }

/-- What a closed gate's speed does to the published speed and the hold count (R8). -/
def publish (running : Bool) (jump v vPub hold : Nat) : Nat × Nat :=
  if !running then (v, 0)
  else if (v ≤ vPub + jump ∧ vPub ≤ v + jump) ∨ 2 ≤ hold then (v, 0)
  else (vPub, hold + 1)

/-- The open gate closes on an edge that made its count n (R6–R9, R12, R14), and the next gate opens.
DEDUCED: log entry 13. -/
def closeGate (g : Gate) (n : Nat) (s : State) : State :=
  let tsum := s.now - g.openedAt
  let v := gateSpeed n s.nvs.pulse tsum
  let (vPub, hold) := publish (s.spd.gateState == .running) (jumpLimit s) v s.spd.vPub s.spd.hold
  let s := s.setSpd { s.spd with
    gateState := .running, lastN := n, lastTsum := tsum, vPub := vPub, hold := hold }
  let s := openGate s
  let s := evalNoise g.rejected s
  let s := offer s.spd.vPub s
  evalOverspeed s

/-- An accepted edge at the gate (R6). DESIGN CHOICE: log entry 14. -/
def gateEdge (s : State) : State :=
  match s.spd.gate with
  | none => openGate (s.setSpd { s.spd with gateState := .gating })
  | some g =>
      let n := satAdd 65535 g.n 1
      if g.openedAt + gateTime s ≤ s.now then closeGate g n s
      else s.setSpd { s.spd with gate := some { g with n := n } }

/-! ### Distance (R15–R17) -/

def odometerMax : Nat := 999999999
def tripMax : Nat := 9999999

/-- A trip counts one unit, and wraps (R16). -/
def tripNext (n : Nat) : Nat := if tripMax ≤ n then 0 else n + 1

/-- One counted unit (R16, R17). -/
def countUnit (s : State) : State :=
  let old := s.spd.odometer
  let s := s.setSpd { s.spd with
    odometer := satAdd odometerMax old 1, tripA := tripNext s.spd.tripA, tripB := tripNext s.spd.tripB }
  if s.spd.odometer ≠ old ∧ s.spd.odometer % recordStep s = 0 then placeOdo s else s

/-- An accepted edge adds to the distance remainder (R15). -/
def addDistance (s : State) : State :=
  let r := s.spd.remainder + 100
  if s.nvs.pulse ≤ r then countUnit (s.setSpd { s.spd with remainder := r - s.nvs.pulse })
  else s.setSpd { s.spd with remainder := r }

/-! ### Edges (R4, R5) -/

/-- The minimum gap test (R5), made while the stall timer runs. -/
def gapFails (s : State) : Bool :=
  s.spd.stallTimer.isSome &&
    match s.spd.lastEdge with
    | some e => decide (s.now < e + minGap s)
    | none => false

/-- A rejected edge (R5). -/
def rejectEdge (s : State) : State :=
  s.setSpd { s.spd with
    rejected := satAdd 65535 s.spd.rejected 1
    gate := s.spd.gate.map fun g => { g with rejected := satAdd 65535 g.rejected 1 } }

/-- An accepted edge (R5). -/
def acceptEdge (s : State) : State :=
  let s := s.setSpd { s.spd with lastEdge := some s.now, stallTimer := some (s.now + stallWindow s) }
  addDistance (gateEdge s)

/-- A transition of the SPEED input (R4, R5). -/
def speedTransition (rising : Bool) (s : State) : State :=
  if inRun s && edgeQualifies s rising then (if gapFails s then rejectEdge s else acceptEdge s) else s

/-! ### Between gates (R10, R11, R13) -/

/-- Decay (R10, R28): e is the time since the last accepted edge. It offers v_pub whether or not the bound lowers it.
DEDUCED: log entry 12. -/
def decay (s : State) : State :=
  if s.spd.gateState = .running then
    match s.spd.lastEdge with
    | some t =>
        let e := s.now - t
        if s.spd.lastTsum < e * s.spd.lastN then
          let v := min s.spd.vPub (decayBound s.nvs.pulse e)
          offer v (s.setSpd { s.spd with vPub := v })
        else s
    | none => s
  else s

/-- The moving flag is evaluated (R13). -/
def evalMoving (s : State) : State :=
  let favours := if s.spd.moving then decide (s.spd.vPub < motionThreshold) else decide (motionThreshold ≤ s.spd.vPub)
  if !favours then s.setSpd { s.spd with confirmRun := none }
  else
    match s.spd.confirmRun with
    | none => s.setSpd { s.spd with confirmRun := some s.now }
    | some start =>
        if start + motionConfirm s ≤ s.now then
          let was := s.spd.moving
          let s := s.setSpd { s.spd with moving := !was, confirmRun := none }
          if was then movingClear s else movingSet s
        else s

/-- A speed update event (R10): decay, the moving flag, cause 40. It has no effect in LOADING and STANDBY. -/
def speedUpdate (s : State) : State := if inRun s then evalOverspeed (evalMoving (decay s)) else s

/-- The stall timer's expiry (R11). A stall, one in GATING or RUNNING, offers v_pub (R28). DEDUCED: log entry 12. -/
def expireStall (s : State) : State :=
  if s.spd.gateState = .idle then s.setSpd { s.spd with stallTimer := none }
  else
    offer 0 (s.setSpd { s.spd with
      stallTimer := none, gate := none, gateState := .idle, vPub := 0, hold := 0 })

/-! ### Orders and power transitions (R18–R21) -/

/-- A RESET TRIP reaches SPD (R18, R184): 0 is trip A and 1 is trip B. -/
def resetTrips (trip : Nat) (s : State) : State :=
  if trip = 0 then s.setSpd { s.spd with tripA := 0 } else s.setSpd { s.spd with tripB := 0 }

/-- A new pulse constant takes effect in SPD (R20). -/
def spdNewPulse (s : State) : State :=
  offer 0 (s.setSpd { s.spd with remainder := 0, gate := none, gateState := .idle, vPub := 0, hold := 0 })

/-- SPD at STANDBY entry (R21). The stall timer stops, so that the gap test is not made. -/
def spdStandbyEntry (s : State) : State :=
  let moved := s.spd.moving
  let s := s.setSpd { s.spd with
    gate := none, gateState := .idle, vPub := 0, hold := 0, stallTimer := none, confirmRun := none
    moving := false }
  let s := offer 0 s
  let s := if moved then movingClear s else s
  s.setSpd { s.spd with overspeed := false, noise := false }

end Sys2Proof.Machine
end

