-- ==== Sys2Proof/Machine/StoreEnds.lean ====
section
/-! DEFINITION. NVS's shared operations at the end of an operation, at LOW and at a reset, and the settings image
(07_non_volatile_store.md, R145–R159). -/

namespace Sys2Proof.Machine

/-! ### What a program leaves (R141) -/

/-- The cells after a program: each bit that the program cleared reads 0, but for the weak ones. -/
def programmed (old meant weak : List Byte) : List Byte :=
  (List.range meant.length).map fun i => old.getD i 0xFF &&& (meant.getD i 0xFF ||| weak.getD i 0)

/-- The verify's read-back of cells. -/
def readBack (cells misread : List Byte) : List Byte :=
  (List.range cells.length).map fun i => cells.getD i 0xFF ^^^ misread.getD i 0

/-- The cells of a program's slot when it ends. -/
def programCells (s : State) (p : Prog) (c : Cells) : List Byte :=
  programmed (arrayBytes s p.addr p.bytes.length) p.bytes c.weak

/-- The program is verified. -/
def verifies (s : State) (p : Prog) (c : Cells) : Bool := readBack (programCells s p c) c.misread == p.bytes

/-- The cells of a program's slot are written. -/
def landProgram (p : Prog) (c : Cells) (s : State) : State :=
  s.setNvs { s.nvs with array := Memory.writeList 0xFF s.nvs.array p.addr (programCells s p c) }

/-! ### Ends of programs (R145, R148, R150, R153, R157) -/

/-- A verify failure (R157): the first returns the request to the set, and the second drops it. -/
def failProgram (p : Prog) (s : State) : State :=
  if p.failures = 0 then
    match p.kind with
    | .odo => s.setNvs { s.nvs with odo := some ⟨1, p.slot⟩ }
    | .cal => s.setNvs { s.nvs with cal := some (p.content, ⟨1, p.slot⟩) }
    | .snap => s.setNvs { s.nvs with snap := some ⟨1, p.slot⟩ }
    | .sets => s.setNvs { s.nvs with sets := some ⟨1, p.slot⟩ }
  else dropRequest p.kind p.slot false s

/-- The operation has ended: NVS starts what it can, or goes on under a suspended erase (R155, R156).
DEDUCED: log entry 27. -/
def afterProgram (under : Option EraseOp) (s : State) : State :=
  match under with
  | none => nvsStart (s.setNvs { s.nvs with flight := .none })
  | some e => resumeErase e s

/-- The end of an ODO program (R145). -/
def endOdo (p : Prog) (c : Cells) (s : State) : State :=
  let ok := verifies s p c
  let s := advanceOdo (landProgram p c s)
  if ok then setFault .odo false (completeAll (ordersOf .odo) resDone p.slot s) else failProgram p s

/-- The end of a CAL program (R148): a verified one sets P and the lock and reaches SPD (R20). -/
def endCal (p : Prog) (c : Cells) (s : State) : State :=
  let ok := verifies s p c
  let s := landProgram p c s
  let s := s.setNvs { s.nvs with calPtr := p.slot + 1 }
  if ok then
    let s := spdNewPulse (s.setNvs { s.nvs with pulse := p.content.pulse, locked := p.content.locked })
    setFault .cal false (completeAll (ordersOf .cal) resDone s.nvs.calPtr s)
  else failProgram p s

/-- The end of a SNAP program (R150). -/
def endSnap (p : Prog) (c : Cells) (s : State) : State :=
  let ok := verifies s p c
  let s := advanceSnap (landProgram p c s)
  if ok then
    let s := post .snapshotSaved (p.bytes.take 4 ++ [u8 p.slot] ++ (p.bytes.drop 6).take 3) s
    setFault .snap false (completeAll (ordersOf .snap) resDone p.slot s)
  else failProgram p s

/-- The end of the program step of SETS (R153). An image that misread bits alone failed stands as it was meant, and R152 finds it
valid. DEDUCED: log entry 55. -/
def endSets (p : Prog) (c : Cells) (s : State) : State :=
  let ok := verifies s p c
  let s := landProgram p c s
  if ok then setFault .sets false (completeAll (ordersOf .sets) resDone 0 s) else failProgram p s

/-- The program of a kind that is in flight and whose time has come, with the erase suspended under it. -/
def programDue (k : Kind) (s : State) : Option (Prog × Option EraseOp) :=
  match s.nvs.flight with
  | .program p => if p.kind = k ∧ p.endsAt ≤ s.now then some (p, none) else none
  | .suspended e p => if p.kind = k ∧ p.endsAt ≤ s.now then some (p, some e) else none
  | .none | .erase _ => none

/-- The end of a program of a kind, if one is due. -/
def programEnd (k : Kind) (finish : Prog → Cells → State → State) (c : Cells) (s : State) : State :=
  match programDue k s with
  | some (p, under) => afterProgram under (finish p c s)
  | none => s

/-! ### The settings image (R151–R153) -/

/-- The place and size of a section of the settings area (R151, R209), by id from 1. -/
def sectionAddr (id : Nat) : Nat :=
  match id with
  | 1 => 0x400
  | 2 => 0x420
  | 11 => 0x640
  | 12 => 0x740
  | 13 => 0x790
  | 14 => 0x7F0
  | 15 => 0x810
  | n => 0x440 + 64 * (n - 3)

def sectionSize (id : Nat) : Nat :=
  match id with
  | 1 | 2 | 14 => 32
  | 11 => 256
  | 12 => 80
  | 13 => 96
  | 15 => 288
  | _ => 64

/-- One section of the image: its header and its data. -/
def imageSection (s : State) (id : Nat) : List Byte :=
  [u8 id, s.nvs.loadControl.toList.getD (id - 1) 1] ++ le 2 (sectionSize id) ++
    Memory.readList 0 s.host (sectionAddr id) (sectionSize id)

def imageSignature : Nat := 0x574B
def imageLength : Nat := 1396

/-- The image of the settings area at this instant. -/
def settingsImage (s : State) : List Byte :=
  let body := ((List.range 15).map fun k => imageSection s (k + 1)).flatten
  let sum := imageSignature + imageLength + 15 + wordSum body
  le 2 imageSignature ++ le 2 imageLength ++ le 2 15 ++ le 2 (checkWord sum) ++ body

/-! ### Ends of erases (R146, R153, R155) -/

/-- Every byte of a sector reads FFh (R141). An erase that reaches its end is complete. DESIGN CHOICE: log entry 41. -/
def eraseSector (sec : Nat) (s : State) : State :=
  s.setNvs { s.nvs with array := s.nvs.array.forget (sectorBase sec) 4096 }

/-- An erase in flight, not suspended, whose time has come. -/
def eraseDue (forSets : Bool) (s : State) : Option EraseOp :=
  match s.nvs.flight with
  | .erase e => if e.forSets = forSets ∧ e.startedAt + e.remaining ≤ s.now then some e else none
  | .none | .program _ | .suspended _ _ => none

/-- The end of the erase step of SETS: the program step follows at once (R153, R155). DESIGN CHOICE: the complete erase (log
entry 41), and the slot number 0 of the image (log entry 52). -/
def endSetsErase (e : EraseOp) (s : State) : State :=
  let s := eraseSector 0 s
  launch none
    { kind := .sets, slot := 0, addr := 0, bytes := settingsImage s
      startedAt := s.now, endsAt := s.now + programTime imageLength
      failures := e.failures, content := ⟨0, false⟩ } s

/-- The end of the erase of a ring sector: it leaves the erase-due set. DESIGN CHOICE, of the complete erase: log entry 41. -/
def endErase (e : EraseOp) (s : State) : State :=
  let s := setDue e.sector false (eraseSector e.sector s)
  nvsStart (s.setNvs { s.nvs with flight := .none })

/-! ### Validity of stored records (R144, R147, R150, R152) -/

/-- The 16-bit word at a place in a run of bytes. -/
def word16 (bs : List Byte) (i : Nat) : Nat := ofLe ((bs.drop i).take 2)

/-- The 32-bit number at a place in a run of bytes. -/
def word32 (bs : List Byte) (i : Nat) : Nat := ofLe ((bs.drop i).take 4)

/-- An odometer record is valid (R144), one that was cut off included if its check happens to match. DEDUCED: log entry 36. -/
def validOdo (bs : List Byte) : Bool :=
  word16 bs 6 == checkWord (word16 bs 0 + word16 bs 2 + word16 bs 4) && decide (word32 bs 0 ≤ odometerMax)

/-- A calibration record is valid (R147). -/
def validCal (bs : List Byte) : Bool :=
  word16 bs 6 == checkWord (word16 bs 0 + word16 bs 2 + word16 bs 4) &&
    decide (2000 ≤ word16 bs 0 ∧ word16 bs 0 ≤ 60000) && (word16 bs 2 == 1 || word16 bs 2 == 2)

/-- A snapshot is valid (R150), one that was cut off included if its check happens to match. DEDUCED: log entry 36. -/
def validSnap (bs : List Byte) : Bool := word16 bs 254 == checkWord (wordSum (bs.take 254))

/-- The image in sector 0 is valid (R152), a partial one included if its check happens to match, and one that was never verified.
DEDUCED: log entries 36 and 55. -/
def validImage (bs : List Byte) : Bool :=
  let len := word16 bs 2
  word16 bs 0 == imageSignature && len % 2 == 0 && decide (8 ≤ len ∧ len ≤ 4096) &&
    word16 bs 6 == checkWord (wordSum (bs.take 6) + wordSum ((bs.take len).drop 8))

/-! ### An erase that is abandoned or cut off (R158, R159) -/

/-- The free contents of one record slot: the limits the spec sets are that a slot holds the old record, erased bytes
or no valid record. -/
def interruptedSlot (valid : List Byte → Bool) (old new : List Byte) : List Byte :=
  if valid new ∧ new ≠ old then List.replicate old.length 0xFF else new

/-- The free bytes of an interrupted erase, from an address upward. -/
def interruptedBytes (n : Nat) : Nat → Nat → List Byte
  | _, 0 => []
  | a, k + 1 => Config.interruptedErase n a :: interruptedBytes n (a + 1) k

/-- The contents of a ring sector after an interrupted erase, from an address upward in slots of a size. -/
def interruptedRing (valid : List Byte → Bool) (size : Nat) (s : State) : Nat → Nat → List Byte
  | _, 0 => []
  | a, k + 1 =>
      interruptedSlot valid (arrayBytes s a size) (interruptedBytes s.freeCount a size) ++
        interruptedRing valid size s (a + size) k

/-- The contents of a sector after an interrupted erase. A ring sector is not blank; sector 0 holds no valid image.
UNVERIFIED: log entry 4. -/
def interruptedSector (s : State) (sec : Nat) : List Byte :=
  if sec = 0 then
    let bs := interruptedBytes s.freeCount 0 4096
    if validImage bs then List.replicate 4096 0xFF else bs
  else
    let bs :=
      if sec < 10 then interruptedRing validOdo 8 s (sectorBase sec) 512
      else interruptedRing validSnap 256 s (sectorBase sec) 16
    if bs.all fun b => b == 0xFF then List.replicate 8 0 ++ bs.drop 8 else bs

/-- An erase stops for good before its end. -/
def interruptErase (e : EraseOp) (s : State) : State :=
  let bs := interruptedSector s e.sector
  let s := eraseSector e.sector s
  let s := s.setNvs { s.nvs with array := Memory.writeList 0xFF s.nvs.array (sectorBase e.sector) bs }
  { s with freeCount := s.freeCount + 1 }

/-- An erase is abandoned as LOW begins (R158): a due sector stays due, and SETS returns to the set. -/
def abandonErase (e : EraseOp) (s : State) : State :=
  let s := interruptErase e s
  if e.forSets then s.setNvs { s.nvs with sets := some ⟨e.failures, 0⟩ } else s

/-- NVS as LOW begins (R158). -/
def nvsLowSet (s : State) : State :=
  match s.nvs.flight with
  | .none | .program _ => s
  | .erase e => abandonErase e (s.setNvs { s.nvs with flight := .none })
  | .suspended e p => abandonErase e (s.setNvs { s.nvs with flight := .program p })

/-- The bytes that a program has programmed by now, 4 in each 60 µs (R141). DEDUCED: log entry 16. -/
def bytesDone (p : Prog) (s : State) : Nat := 4 * ((s.now - p.startedAt) / 60)

/-- A reset cuts a CAL program off with some of its words programmed and the rest FFh (R159). -/
def cutsCal (p : Prog) (s : State) : Bool :=
  p.kind == .cal && decide (0 < bytesDone p s ∧ bytesDone p s < p.bytes.length)

/-- A program that a reset cuts off (R159) has programmed the words whose 60 µs had passed. A calibration slot cut off
part-way is noted, so that LOADING skips it. DEDUCED: log entries 16 and 36. -/
def cutProgram (p : Prog) (s : State) : State :=
  let done := p.bytes.take (bytesDone p s)
  s.setNvs { s.nvs with
    array := Memory.writeList 0xFF s.nvs.array p.addr (programmed (arrayBytes s p.addr done.length) done [])
    calCut := if cutsCal p s then p.slot :: s.nvs.calCut else s.nvs.calCut }

/-- A reset stops the operation in flight (R159). -/
def nvsCutOff (s : State) : State :=
  let s' := s.setNvs { s.nvs with flight := .none }
  match s.nvs.flight with
  | .none => s
  | .program p => cutProgram p s'
  | .erase e => interruptErase e s'
  | .suspended e p => interruptErase e (cutProgram p s')

/-! ### Power transitions (R157) -/

/-- NVS at STANDBY entry. -/
def nvsStandbyEntry (s : State) : State := s.setNvs { s.nvs with storeFault := false }

/-- NVS at RUN entry: the assertion is re-evaluated from clear. -/
def nvsRunEntry (s : State) : State := evalStoreFault (s.setNvs { s.nvs with storeFault := false })

end Sys2Proof.Machine
end

