-- ==== Sys2Proof/Machine/Loading.lean ====
section
/-! DEFINITION. The LOADING sequence (R160–R162, R119) and the default contents of the settings sections (R210). -/

namespace Sys2Proof.Machine

/-- The record stored in a slot; none for a blank slot, which holds no valid record of any kind. -/
def storedRecord (s : State) (a k : Nat) : Option (List Byte) :=
  if Memory.blank s.nvs.array a k then none else some (arrayBytes s a k)

/-! ### Step 1, calibration (R147, R160) -/

/-- The record stored in a calibration slot; none for one that a reset cut off part-way, which is skipped (R159).
DEDUCED: log entry 36. -/
def storedCal (s : State) (r : Nat) : Option (List Byte) :=
  if r ∈ s.nvs.calCut then none else storedRecord s (calAddr r) 16

/-- The latest valid calibration record: of the valid ones the highest slot's. -/
def latestCal (s : State) : Option (List Byte) :=
  (List.range 256).foldl
    (fun w r =>
      match storedCal s r with
      | some bs => if validCal bs then some bs else w
      | none => w) none

/-- The calibration pointer: the lowest slot above every slot that is not blank. -/
def calPointer (s : State) : Nat :=
  (List.range 256).foldl (fun p r => if Memory.blank s.nvs.array (calAddr r) 16 then p else r + 1) 0

/-- Step 1. -/
def loadCal (s : State) : State :=
  let n := { s.nvs with calPtr := calPointer s }
  match latestCal s with
  | some bs => s.setNvs { n with pulse := word16 bs 0, locked := word16 bs 2 == 2 }
  | none => s.setNvs { n with pulse := 8000, locked := false }

/-! ### Step 2, odometer scan (R144, R160) -/

/-- A valid odometer record that the scan found. -/
structure OdoFound where
  slot : Nat
  total : Nat
  sequence : Nat
  deriving DecidableEq, Repr

/-- Sequence a is later than b by a 16-bit serial comparison (R144). DEDUCED: log entry 24. -/
def laterSequence (a b : Nat) : Bool :=
  let d := (a + 65536 - b % 65536) % 65536
  decide (1 ≤ d ∧ d ≤ 32767)

/-- A record found in a higher slot takes the place of the winner so far. DEDUCED: log entry 24. -/
def odoWins (new old : OdoFound) : Bool :=
  decide (old.total < new.total) ||
    (new.total == old.total && (laterSequence new.sequence old.sequence || new.sequence == old.sequence))

/-- The winner of the scan. -/
def odoWinner (s : State) : Option OdoFound :=
  (List.range 4096).foldl
    (fun w i =>
      match storedRecord s (odoAddr i) 8 with
      | some bs =>
          if validOdo bs then
            let x : OdoFound := { slot := i, total := word32 bs 0, sequence := word16 bs 4 }
            match w with
            | some old => if odoWins x old then some x else w
            | none => some x
          else w
      | none => w) none

/-- The first blank slot of a ring from a start, `k` slots of the ring of `n` examined. -/
def firstBlank (blank : Nat → Bool) (n start : Nat) : Nat → Option Nat
  | 0 => none
  | k + 1 => if blank (start % n) then some (start % n) else firstBlank blank n (start + 1) k

/-- Step 2. -/
def loadOdo (s : State) : State :=
  let w := odoWinner s
  let start := match w with
    | some x => x.slot + 1
    | none => 0
  let s := s.setSpd { s.spd with odometer := (w.map OdoFound.total).getD 0 }
  let s := s.setNvs { s.nvs with odoSeq := match w with
    | some x => (x.sequence + 1) % 65536
    | none => 0 }
  let s :=
    match firstBlank (fun i => Memory.blank s.nvs.array (odoAddr i) 8) 4096 start 4096 with
    | some i => s.setNvs { s.nvs with odoPtr := i }
    | none =>
        let i := match w with
          | some x => (x.slot / 512 + 1) % 8 * 512
          | none => 0
        setDue (odoSector i) true (s.setNvs { s.nvs with odoPtr := i })
  enterSector (odoSector s.nvs.odoPtr) s

/-! ### Step 3, snapshot restore (R119, R150, R161) -/

/-- A valid snapshot that the search found: its record number and its bytes. -/
structure SnapFound where
  slot : Nat
  bytes : List Byte
  deriving DecidableEq, Repr

/-- The latest valid snapshot: the highest sequence. DEDUCED: log entry 24. -/
def latestSnap (s : State) : Option SnapFound :=
  (List.range 64).foldl
    (fun w j =>
      match storedRecord s (snapAddr j) 256 with
      | some bs =>
          if validSnap bs then
            match w with
            | some old => if word32 old.bytes 0 ≤ word32 bs 0 then some ⟨j, bs⟩ else w
            | none => some ⟨j, bs⟩
          else w
      | none => w) none

/-- A driver record restored from its block of a snapshot (R119, R208). A flag byte is set where it is 1 and clear at any other
value (DESIGN CHOICE), and a code that R203 does not name is UNKNOWN or NONE (DEDUCED): log entry 11. -/
def restoreDriver (bs : List Byte) : Driver :=
  let src := Source.ofCode (bs.getD 7 0).toNat
  let stored := Activity.ofCode (bs.getD 6 0).toNat
  let activity := if src = .implied then Activity.unknown else stored
  let wd := word16 bs 16
  let dd := min (word16 bs 14) wd
  { Driver.reset with
    present := (bs.getD 0 0).toNat == 1
    holderValid := (bs.getD 1 0).toNat == 1
    holder := word32 bs 2
    activity := activity
    source := if src = .implied then .none else src
    report := if src = .tacho ∨ src = .presence then some (activity, src) else none
    sinceDay := word16 bs 8, sinceMinute := word16 bs 10
    wd := wd, dd := dd, cd := min (word16 bs 12) dd, br := word16 bs 18
    firstPart := (bs.getD 20 0).toNat == 1
    extended := (bs.getD 21 0).toNat == 1
    extensions := (bs.getD 22 0).toNat
    restored := true }

/-- DTU and the trips restored from a snapshot (R119), the time as it is stored, whatever its range. DESIGN CHOICE: log
entry 11. -/
def restoreSnap (bs : List Byte) (s : State) : State :=
  let s := s.setSpd { s.spd with tripA := word32 bs 16, tripB := word32 bs 20 }
  let s := s.setDtu { s.dtu with
    day := word16 bs 4, minute := word16 bs 6, second := (bs.getD 8 0).toNat
    lastDay := word16 bs 4, lastMinute := word16 bs 6 }
  (s.setDriver 0 (restoreDriver ((bs.drop 32).take 32))).setDriver 1 (restoreDriver ((bs.drop 64).take 32))

/-- Step 3. -/
def loadSnap (s : State) : State :=
  let w := latestSnap s
  let start := match w with
    | some x => x.slot + 1
    | none => 0
  let s := s.setNvs { s.nvs with snapSeq := match w with
    | some x => word32 x.bytes 0 + 1
    | none => 1 }
  let s :=
    match firstBlank (fun j => Memory.blank s.nvs.array (snapAddr j) 256) 64 start 64 with
    | some j => s.setNvs { s.nvs with snapPtr := j }
    | none =>
        let j := match w with
          | some x => (x.slot / 16 + 1) % 4 * 16
          | none => 0
        setDue (snapSector j) true (s.setNvs { s.nvs with snapPtr := j })
  let s := enterSector (snapSector s.nvs.snapPtr) s
  match w with
  | some x => restoreSnap x.bytes s
  | none => s

/-! ### Default contents (R210) -/

/-- The default contents of a section. The fields whose default no rule states hold 00h: a field entry but for its source, tone
2's div code and N in a chime pattern, and points 2 to 7 of a gauge table. DESIGN CHOICE: log entry 47. -/
def defaultSection (id : Nat) : List Byte :=
  padTo (sectionSize id) <|
    match id with
    | 1 => [3]
    | 2 =>
        [2, 0] ++ le 2 50 ++ le 2 100 ++ le 2 1200 ++ le 2 3000 ++ le 2 9000 ++ [2, 0] ++ le 2 100
    | 11 => (List.replicate 53 [0xFF, 0, 0, 0]).flatten
    | 12 =>
        [3, 3, 2, 2, 1, 1, 0, 0] ++ (List.replicate 8 [1, 124, 0, 0, 20, 20, 3, 0, 0]).flatten
    | 13 => (List.replicate 48 [0xFF, 1]).flatten
    | 14 =>
        le 2 270 ++ le 2 15 ++ le 2 45 ++ le 2 15 ++ le 2 30 ++ le 2 540 ++ le 2 600 ++ [2, 0] ++
          le 2 660 ++ le 2 2700 ++ le 2 3360 ++ [1, 30, 5] ++ le 2 120
    | 15 => List.replicate 96 0xFF ++ (List.replicate 32 [0xFF, 0]).flatten ++ [0, 0, 0, 0, 0, 0, 0, 1]
    | _ =>
        [0, 3] ++ le 2 3240 ++ [24, 4] ++ le 2 120 ++ [0, 0, 0, 2] ++ le 2 1000 ++ le 2 0 ++ le 2 0 ++ le 2 0 ++
          le 2 0 ++ le 2 0 ++ le 2 65535 ++ le 2 0

/-! ### Step 4, settings load (R152, R162) -/

/-- A section that the walk over the image meets for the first time. -/
structure SectionFound where
  id : Nat
  control : Byte
  length : Nat
  dataAt : Nat
  deriving DecidableEq, Repr

/-- The walk over the section headers: it stops early at a header or data that would run past the image length, and has not
met the id of such a header. DESIGN CHOICE: log entry 46. -/
def walkSections (bs : List Byte) (len : Nat) : Nat → Nat → List SectionFound → List SectionFound
  | 0, _, acc => acc
  | k + 1, off, acc =>
      let n := word16 bs (off + 2)
      if len < off + 4 ∨ len < off + 4 + n then acc
      else
        let id := (bs.getD off 0).toNat
        let fresh := decide (1 ≤ id ∧ id ≤ 15) && !acc.any fun x => x.id == id
        walkSections bs len k (off + 4 + n)
          (if fresh then acc ++ [⟨id, bs.getD (off + 1) 0, n, off + 4⟩] else acc)

/-- The sections of a valid image. -/
def imageSections (bs : List Byte) : List SectionFound :=
  walkSections bs (word16 bs 2) (word16 bs 4) 8 []

/-- A section is loaded from the image: its load control is 01h and its length is right. -/
def SectionFound.loads (x : SectionFound) : Bool := x.control == 1 && x.length == sectionSize x.id

/-- The contents that LOADING gives a section. -/
def loadedSection (bs : List Byte) (xs : List SectionFound) (id : Nat) : List Byte :=
  match xs.find? fun x => x.id == id with
  | some x => if x.loads then padTo (sectionSize id) (bs.drop x.dataAt) else defaultSection id
  | none => defaultSection id

/-- The section bitmap: the bit of each section whose data was copied from the image. -/
def sectionBitmap (xs : List SectionFound) : Nat :=
  ((List.range 15).map fun k => 2 ^ k * flag (xs.any fun x => x.id == k + 1 && x.loads)).sum

/-- The settings area's sections lie one after another from 0400h in id order (R209). -/
def writeSections (content : Nat → List Byte) (s : State) : State :=
  s.setHost (Memory.writeList 0 s.host 0x400 ((List.range 15).map fun k => content (k + 1)).flatten)

/-- Step 4, with the LOAD_OUTCOME record. -/
def loadSettings (snapFound : Bool) (s : State) : State :=
  let bs := arrayBytes s 0 4096
  let valid := validImage bs
  let xs := if valid then imageSections bs else []
  let s := writeSections (loadedSection bs xs) s
  let s := s.setNvs { s.nvs with
    loadDefaulted := !valid
    bitmap := sectionBitmap xs
    loadControl := Vector.ofFn fun k : Fin 15 =>
      match xs.find? fun x => x.id == k.val + 1 with
      | some x => x.control
      | none => 1 }
  post .loadOutcome
    ([u8 (flag s.nvs.loadDefaulted)] ++ le 2 s.nvs.bitmap ++ le 2 s.nvs.calPtr ++ le 2 s.nvs.odoPtr ++
      [u8 (flag snapFound)]) s

/-- The whole sequence, up to the report of step 5. -/
def loadingSequence (s : State) : State :=
  let found := (latestSnap s).isSome
  let s := loadSettings found (loadSnap (loadOdo (loadCal s)))
  s.setNvs { s.nvs with active := true }

end Sys2Proof.Machine
end

