-- ==== Sys2Proof/Machine/PowerStates.lean ====
section
/-! DEFINITION. PSC's shared operations: the debounced inputs, the transitions and the blocks' reactions to them, LOW and
reset (10_power_states.md). -/

namespace Sys2Proof.Machine

/-! ### Debouncing (R195, R199) -/

def ignTime : Nat := 50000
def supplyTime : Nat := 2000
def lowSupplyTime : Nat := 500000

/-- The run of a raw level against the debounced one: it begins at a difference and ends at agreement. -/
def debounceRun (raw level : Bool) (run : Option Nat) (now : Nat) : Option Nat :=
  if raw = level then none
  else
    match run with
    | some t => some t
    | none => some now

/-- The raw ignition input changes (R195). -/
def ignRawChange (on : Bool) (s : State) : State :=
  s.setPsc { s.psc with ignRaw := on, ignRun := debounceRun on s.psc.ign s.psc.ignRun s.now }

/-- The IGN run has lasted 50 ms. -/
def ignDue (s : State) : Bool := lasted s.now ignTime s.psc.ignRun

/-- IGN takes the new level and the run ends. -/
def ignTake (s : State) : State := s.setPsc { s.psc with ign := !s.psc.ign, ignRun := none }

/-- The supply indication changes (R199). -/
def supplyChange (low : Bool) (s : State) : State :=
  s.setPsc { s.psc with supplyLow := low, supplyRun := debounceRun low s.psc.low s.psc.supplyRun s.now }

/-- The supply run has lasted 2 ms. -/
def supplyDue (s : State) : Bool := lasted s.now supplyTime s.psc.supplyRun

/-! ### POWER records (R201) -/

inductive PowerReason
  | loadingEnd | ignOn | ignOff | proofEnd | lowSet | lowClear
  deriving DecidableEq, Repr

def PowerReason.code : PowerReason → Nat
  | .loadingEnd => 0
  | .ignOn => 1
  | .ignOff => 2
  | .proofEnd => 3
  | .lowSet => 4
  | .lowClear => 5

/-- A POWER record after an event. -/
def postPower (why : PowerReason) (before : Power) (s : State) : State :=
  post .power
    [u8 why.code, u8 s.psc.power.code, u8 before.code, u8 (flag s.psc.ign), u8 (flag s.psc.low),
      u8 s.psc.cause.code] s

/-! ### Reactions (R194) -/

/-- The blocks, in the order in which those react that a command's order does not name. -/
def allBlocks : List Block := [.spd, .gau, .ttu, .tlr, .dtu, .sdu, .nvs, .psc]

/-- The blocks react to an announced transition, each once, in an order that the command gives (log entry 2). -/
def announce (order : List Block) (reaction : Block → State → State) (s : State) : State :=
  (arrange order allBlocks).foldl (fun s b => reaction b s) s

/-- PSC re-evaluates the low-supply assertion from clear at a RUN entry (R200). R197 names this beside the announcement and
orders it against no block's reaction: PSC takes its place among the blocks, in the command's order (DESIGN CHOICE: log entry
53). -/
def pscRunEntry (s : State) : State :=
  let isNow := s.psc.low && s.psc.lowTimer.isNone
  sendAssertion 51 none false isNow (s.setPsc { s.psc with lowAssert := isNow })

/-- A block at RUN entry from STANDBY. -/
def runReaction : Block → State → State
  | .spd, s => s
  | .gau, s => gauRunEntry s
  | .ttu, s => ttuRunEntry s
  | .tlr, s => tlrRunEntry s
  | .dtu, s => dtuRunEntry s
  | .sdu, s => sduRunEntry s
  | .nvs, s => nvsRunEntry s
  | .psc, s => pscRunEntry s

/-- A block at STANDBY entry. -/
def standbyReaction : Block → State → State
  | .spd, s => spdStandbyEntry s
  | .gau, s => gauStandbyEntry s
  | .ttu, s => ttuStandbyEntry s
  | .tlr, s => tlrStandbyEntry s
  | .dtu, s => dtuStandbyEntry s
  | .sdu, s => sduStandbyEntry s
  | .nvs, s => nvsStandbyEntry s
  | .psc, s => s.setPsc { s.psc with lowAssert := false }

/-- DTU at the end of LOADING (R95): the clock starts (DESIGN CHOICE, of the second's start: log entry 38), the profile
is checked, the derived values are computed. -/
def dtuLoadingEnd (s : State) : State :=
  let s := noteProfile (s.setDtu { s.dtu with secondStart := s.now })
  deriveSlot 1 (deriveSlot 0 s)

/-- What a block does at the end of LOADING before its RUN or STANDBY entry (R80, R95, R155). -/
def loadingReaction : Block → State → State
  | .tlr, s => tlrLoadingEnd s
  | .dtu, s => dtuLoadingEnd s
  | .nvs, s => nvsStart s
  | .spd, s | .gau, s | .ttu, s | .sdu, s | .psc, s => s

/-- A block at the end of LOADING and at the entry that follows in the same event. TLR's RUN entry is one from STANDBY only (R93).
DEDUCED: log entry 26. -/
def loadedReaction (b : Block) (s : State) : State :=
  let s := loadingReaction b s
  if inRun s then (if b = .tlr then s else runReaction b s) else standbyReaction b s

/-! ### Transitions (R196–R198) -/

/-- The proof timer starts with the proof time of this instant (R198). -/
def enterProof (s : State) : State :=
  s.setPsc { s.psc with power := .proof, proofTimer := some (s.now + proofTime s) }

/-- The end of LOADING (R162, R196). Into STANDBY, the blocks' order decides whether a due erase or DTU's SNAP starts first.
DESIGN CHOICE: log entries 26 and 56. -/
def endLoading (order : List Block) (s : State) : State :=
  let s := loadingSequence s
  let s := if s.psc.ign then enterProof s else s.setPsc { s.psc with power := .standby }
  announce order loadedReaction (postPower .loadingEnd .loading s)

/-- RUN entry from STANDBY (R197). DEDUCED: log entry 13. -/
def enterRun (order : List Block) (s : State) : State :=
  announce order runReaction (postPower .ignOn .standby (enterProof (ignTake s)))

/-- STANDBY entry from RUN (R197). DEDUCED: log entry 13. -/
def enterStandby (order : List Block) (s : State) : State :=
  let before := s.psc.power
  let s := ignTake s
  let s := s.setPsc { s.psc with power := .standby, proofTimer := none, lowAssert := false }
  announce order standbyReaction (postPower .ignOff before s)

/-- The change from PROOF to NORMAL (R198): TTU and SDU react. -/
def endProof (s : State) : State :=
  let s := postPower .proofEnd .proof (s.setPsc { s.psc with power := .normal, proofTimer := none })
  sduProofEnd (chimeStart (lampEvaluation s))

/-! ### LOW (R199, R200) -/

/-- LOW is set: the playing chime returns to the queue (R76) and NVS abandons an erase (R158). DEDUCED: log entry 13. -/
def setLow (s : State) : State :=
  let s := s.setPsc { s.psc with low := true, supplyRun := none, lowTimer := some (s.now + lowSupplyTime) }
  nvsLowSet (returnPlaying (postPower .lowSet s.psc.power s))

/-- A block's reaction to the clearing of LOW: PSC clears cause 51, TTU may start a chime, NVS starts what it can. -/
def lowClearReaction : Block → State → State
  | .psc, s =>
      let was := s.psc.lowAssert
      sendAssertion 51 none was false (s.setPsc { s.psc with lowAssert := false })
  | .ttu, s => chimeStart s
  | .nvs, s => nvsStart s
  | .spd, s | .gau, s | .tlr, s | .dtu, s | .sdu, s => s

/-- LOW is cleared. -/
def clearLow (order : List Block) (s : State) : State :=
  let s := s.setPsc { s.psc with low := false, supplyRun := none, lowTimer := none }
  announce order lowClearReaction (postPower .lowClear s.psc.power s)

/-- The low-supply timer's expiry (R200). -/
def expireLowSupply (s : State) : State :=
  let was := s.psc.lowAssert
  sendAssertion 51 none was true (s.setPsc { s.psc with lowTimer := none, lowAssert := true })

/-! ### Reset (R193, R159) -/

/-- Every block's state is lost (R193). The array, the model's own time and counters and the waiting commands stay. -/
def lostState (s : State) : State :=
  { State.reset with
    now := s.now
    nvs := Nvs.reset s.nvs.array s.nvs.calCut
    freeCount := s.freeCount
    pending := s.pending }

/-- The part goes into reset, or a further source holds it there. The operation in flight is cut off, and every block
holds the values it will start from. DEDUCED: log entry 33. -/
def beginReset (source : ResetSource) (s : State) : State :=
  if s.psc.held then s.setPsc { s.psc with bySupply := s.psc.bySupply || source == .supply }
  else (lostState (nvsCutOff s)).setPsc { Psc.reset with held := true, bySupply := source == .supply }

/-- The state right after a reset that ends now with these pin levels (R193). DEDUCED, of the ACK input: log entry 35. -/
def afterReset (pins : Pins) (s : State) : State :=
  { lostState s with
    psc := { Psc.reset with
      bySupply := s.psc.bySupply
      ignRaw := pins.ign, ignRun := if pins.ign then some s.now else none
      supplyLow := pins.supplyLow, supplyRun := if pins.supplyLow then some s.now else none
      cause := if s.psc.bySupply then .powerOn else .external }
    ttu := { Ttu.reset with
      ackRaw := pins.ackPressed, ackRun := if pins.ackPressed then some s.now else none }
    lnk := Lnk.reset pins.chipSelectLow }

end Sys2Proof.Machine
end

