-- ==== Sys2Proof/Machine/Orders.lean ====
section
/-! DEFINITION. The order logic: the take of an order slot, its checks, and the ten orders (09_orders.md). -/

namespace Sys2Proof.Machine

/-- The limit of a SET TIME's minute and second, a LAMP TEST's seconds and a pulse constant, by the rules named. -/
def minuteMax : Nat := 1439
def secondMax : Nat := 59
def pulseMin : Nat := 2000
def pulseMax : Nat := 60000

/-- ACKNOWLEDGE (R183): the detail is the number of causes whose state changed. -/
def takeAcknowledge (k : Fin 8) (cause : Nat) (s : State) : State :=
  if cause ≤ 52 ∨ cause = 255 then
    let r := orderAcknowledge cause s
    answerOrder k resDone r.1 r.2
  else answerOrder k resBadArgument 1 s

/-- RESET TRIP (R184). -/
def takeResetTrip (k : Fin 8) (trip : Nat) (s : State) : State :=
  if trip ≤ 1 then answerOrder k resDone 0 (resetTrips trip s) else answerOrder k resBadArgument 1 s

/-- REHOME (R185). -/
def takeRehome (k : Fin 8) (mask : Byte) (s : State) : State :=
  if mask = 0 then answerOrder k resBadArgument 1 s
  else if inStandby s then answerOrder k resRefusedState detStandby s
  else answerOrder k resDone 0 (rehomeMask mask s)

/-- LAMP TEST (R186). -/
def takeLampTest (k : Fin 8) (seconds : Nat) (s : State) : State :=
  if seconds < 1 ∨ 10 < seconds then answerOrder k resBadArgument 1 s
  else if inStandby s then answerOrder k resRefusedState detStandby s
  else if !inNormal s then answerOrder k resRefusedState detNotNormal s
  else answerOrder k resDone 0 (startLampTest seconds s)

/-- SET TIME (R187). -/
def takeSetTime (k : Fin 8) (day minute second : Nat) (s : State) : State :=
  if minuteMax < minute then answerOrder k resBadArgument 2 s
  else if secondMax < second then answerOrder k resBadArgument 3 s
  else if s.tlr.line = .alive then answerOrder k resRefusedState detLineAlive s
  else answerOrder k resDone 0 (setClock day minute second 1 s)

/-- TAKE SNAPSHOT (R188). -/
def takeTakeSnapshot (k : Fin 8) (s : State) : State := placeSnap (beginOrder k .snapWaiting s)

/-- SAVE SETTINGS (R189). -/
def takeSaveSettings (k : Fin 8) (s : State) : State :=
  if s.spd.moving then answerOrder k resRefusedState detMoving s
  else if !(slotsIn s [.saving]).isEmpty || setsBusy s then answerOrder k resBusy 0 s
  else placeSets (beginOrder k .saving s)

/-- Checks 4 to 6 of CALIBRATE and LOCK CALIBRATION (R190, R192), and NVS's refusals at placement (R148); then the CAL
request is placed. -/
def calOrder (k : Fin 8) (stage : Progress) (c : CalContent) (s : State) : State :=
  if s.nvs.locked then answerOrder k resRefusedLocked 0 s
  else if !(slotsIn s [.calibrating, .locking]).isEmpty then answerOrder k resBusy 0 s
  else if 256 ≤ s.nvs.calPtr then answerOrder k resFailed detNoSlot s
  else if calBusy s then answerOrder k resBusy 0 s
  else placeCal c (beginOrder k stage s)

/-- CALIBRATE (R190). -/
def takeCalibrate (k : Fin 8) (pulse : Nat) (s : State) : State :=
  if outOf pulseMin pulseMax pulse then answerOrder k resBadArgument 1 s
  else if s.spd.moving then answerOrder k resRefusedState detMoving s
  else calOrder k .calibrating ⟨pulse, false⟩ s

/-- PRESET ODOMETER (R191). -/
def takePresetOdometer (k : Fin 8) (total : Nat) (s : State) : State :=
  if outOf s.spd.odometer odometerMax total then answerOrder k resBadArgument 1 s
  else if s.spd.moving then answerOrder k resRefusedState detMoving s
  else if s.nvs.locked then answerOrder k resRefusedLocked 0 s
  else beginOrder k (.presetApplying total) s

/-- LOCK CALIBRATION (R192). -/
def takeLockCalibration (k : Fin 8) (s : State) : State := calOrder k .locking ⟨s.nvs.pulse, true⟩ s

/-- The take of order slot k (R180): the order code and arguments as they stand after the commit. -/
def takeOrder (k : Fin 8) (s : State) : State :=
  let a := orderAddr k
  let arg := fun i => (hostByte s (a + 2 + i)).toNat
  match (hostByte s (a + 1)).toNat with
  | 0x01 => takeAcknowledge k (arg 0) s
  | 0x02 => takeResetTrip k (arg 0) s
  | 0x03 => takeRehome k (hostByte s (a + 2)) s
  | 0x04 => takeLampTest k (arg 0) s
  | 0x05 => takeSetTime k (host16 s (a + 2)) (host16 s (a + 4)) (arg 4) s
  | 0x06 => takeTakeSnapshot k s
  | 0x07 => takeSaveSettings k s
  | 0x08 => takeCalibrate k (host16 s (a + 2)) s
  | 0x09 => takePresetOdometer k (host16 s (a + 2) + 65536 * host16 s (a + 4)) s
  | 0x0A => takeLockCalibration k s
  | _ => answerOrder k resUnknownOrder 0 s

/-- SPD applies the preset of order slot k (R19, R191). -/
def applyPreset (k : Fin 8) (s : State) : State :=
  match (s.orderSlot k).progress with
  | .presetApplying total =>
      if s.spd.odometer ≤ total ∧ total ≤ odometerMax then
        let s := s.setSpd { s.spd with odometer := total }
        placeOdo (s.setOrderSlot k { s.orderSlot k with progress := .presetWaiting })
      else completeOrder k resBadArgument 1 s
  | .idle | .snapWaiting | .snapArmed | .saving | .calibrating | .locking | .presetWaiting | .presetArmed => s

end Sys2Proof.Machine
end

