-- ==== Sys2Proof/Machine/Link.lean ====
section
/-! DEFINITION. The port and its commands: READ, WRITE, STATUS, the judgement and commit of a WRITE, takes and freeing
(R164–R171, R175). -/

namespace Sys2Proof.Machine

/-! ### Takes (R171) -/

/-- The owner takes the record whose stamp lies at an address; no effect at an address that holds no stamp. -/
def takeAt (a : Nat) (s : State) : State :=
  if 0x40 ≤ a ∧ a < 0xC0 ∧ a % 16 = 0 then takeOrder (Fin.ofNat 8 ((a - 0x40) / 16)) s
  else if 0x100 ≤ a ∧ a < 0x180 ∧ a % 4 = 0 then takeHostCause (Fin.ofNat 32 ((a - 0x100) / 4)) s
  else if 0x180 ≤ a ∧ a < 0x1C0 ∧ a % 8 = 0 then takeGaugeDemand (Fin.ofNat 8 ((a - 0x180) / 8)) s
  else if 0x1C0 ≤ a ∧ a < 0x200 ∧ a % 16 = 0 then takeText (Fin.ofNat 4 ((a - 0x1C0) / 16)) s
  else s

/-- An address that holds a stamp. -/
def isStamp (a : Nat) : Bool :=
  (decide (0x40 ≤ a ∧ a < 0xC0) && a % 16 == 0) || (decide (0x100 ≤ a ∧ a < 0x180) && a % 4 == 0) ||
    (decide (0x180 ≤ a ∧ a < 0x1C0) && a % 8 == 0) || (decide (0x1C0 ≤ a ∧ a < 0x200) && a % 16 == 0)

/-! ### The judgement of a WRITE (R169, R170) -/

/-- The addresses a WRITE touches, with the bytes it would land. -/
def touched (start : Nat) (data : List Byte) : List (Nat × Byte) :=
  data.zipIdx.map fun p => ((start + p.2) % exchangeSize, p.1)

/-- The order slot whose host bytes include an address. -/
def slotOfAddr (a : Nat) : Fin 8 := Fin.ofNat 8 ((a - 0x40) / 16)

/-- A touched byte is protected (R170), for a WRITE of so many data bytes. -/
def isProtected (s : State) (count : Nat) (a : Nat) (b : Byte) : Bool :=
  match ownerOf a with
  | .part => true
  | .unassigned => false
  | .host =>
      if 0x40 ≤ a ∧ a < 0xC0 then
        orderStamp s (slotOfAddr a) != (s.orderSlot (slotOfAddr a)).echo
      else if 0x1400 ≤ a ∧ a < 0x1600 then
        !(count == 1 && b == s.lnk.journal[(Fin.ofNat 32 ((a - 0x1400) / 16) : Fin 32)].post)
      else false

/-- The first test that a WRITE fails, or NONE (R169). `count` is the count of data bytes received. -/
def judgeWrite (s : State) (onBoundary : Bool) (count start : Nat) (data : List Byte) : Discard :=
  let xs := touched start data
  if !onBoundary || count == 0 then .ragged
  else if 64 < count then .length
  else if inLoading s then .notReady
  else if xs.any fun x => ownerOf x.1 == .unassigned then .outside
  else if xs.any fun x => isProtected s count x.1 x.2 then .protectedByte
  else .none

/-! ### The commit (R169, R171, R175) -/

/-- Every byte lands. -/
def land (xs : List (Nat × Byte)) (s : State) : State :=
  s.setHost (xs.foldl (fun m x => Memory.write 0 m x.1 x.2) s.host)

/-- The stamps that a WRITE changed, in the order in which their takes are taken. -/
def changedStamps (takes : List Nat) (xs : List (Nat × Byte)) (before after : State) : List Nat :=
  arrange takes ((xs.map Prod.fst).dedup.filter fun a => isStamp a && hostByte before a != hostByte after a)

/-- The freeing of the cursor slot drains the backlog (R175). DEDUCED: log entry 34. -/
def drainIfFreed (before s : State) : State :=
  if slotFilled before (cursorSlot before) && !slotFilled s (cursorSlot before) then drain s.lnk.backlog s else s

/-- The commit of a WRITE: its bytes land at one instant, and its takes are delivered. DEDUCED: log entry 34. -/
def commitWrite (takes : List Nat) (xs : List (Nat × Byte)) (s : State) : State :=
  let after := land xs (s.setLnk { s.lnk with discard := .none })
  let after := drainIfFreed s after
  (changedStamps takes xs s after).foldl (fun s a => takeAt a s) after

/-- A WRITE is judged at the rise of chip select (R169). -/
def endWrite (takes : List Nat) (onBoundary : Bool) (s : State) : State :=
  let p := s.lnk.port
  match judgeWrite s onBoundary p.writeCount p.writeStart p.writeBuffer with
  | .none => commitWrite takes (touched p.writeStart p.writeBuffer) s
  | reason => s.setLnk { s.lnk with discard := reason }

/-! ### The port (R164, R166–R169) -/

def State.setPort (s : State) (p : Port) : State := s.setLnk { s.lnk with port := p }

/-- Chip select falls. -/
def csFall (s : State) : State :=
  s.setPort { s.lnk.port with
    csLow := true, state := .command, command := none, addressBytes := 0, address := 0
    writeStart := 0, writeBuffer := [], writeCount := 0, out := [] }

/-- Chip select rises, so many clocks after the last whole byte. A WRITE past its command byte is judged. -/
def csRise (takes : List Nat) (bits : Nat) (s : State) : State :=
  let s' := if s.lnk.port.command = some .write then endWrite takes (bits == 0) s else s
  s'.setPort { s'.lnk.port with csLow := false, state := .idle, command := none, writeBuffer := [], writeCount := 0 }

/-- Data byte of a READ (R167): the address's line is captured when the address enters it. -/
def readByte (s : State) : State :=
  let p := s.lnk.port
  let n := p.address / 16
  let line := if n = p.lineNumber then p.line else captureLine s n
  s.setPort { p with
    lineNumber := n, line := line, out := p.out ++ [line.getD (p.address % 16) 0]
    address := (p.address + 1) % exchangeSize }

/-- One whole byte is clocked (R166–R169). UNVERIFIED: log entry 4. -/
def clockByte (s : State) (b : Byte) : State :=
  let p := s.lnk.port
  let zero := { p with out := p.out ++ [0] }
  match p.state with
  | .idle => s
  | .command =>
      if b = 0x3A then s.setPort { zero with state := .address, command := some .read }
      else if b = 0x5C then s.setPort { zero with state := .address, command := some .write }
      else if b = 0x71 then s.setPort { zero with state := .data, command := some .status }
      else s.setPort { zero with state := .ignore, command := some .unknown }
  | .address =>
      if p.addressBytes = 0 then s.setPort { zero with addressBytes := 1, address := b.toNat }
      else
        let a := (p.address + 256 * b.toNat) % exchangeSize
        s.setPort { zero with
          addressBytes := 2, address := a, writeStart := a
          state := if p.command = some .read then .turnaround else .data }
  | .turnaround =>
      s.setPort { zero with
        state := .data, lineNumber := p.address / 16, line := captureLine s (p.address / 16) }
  | .data =>
      match p.command with
      | some .read => readByte s
      | some .status => s.setPort { p with out := p.out ++ [linkStatus s] }
      | some .write =>
          s.setPort { zero with
            address := (p.address + 1) % exchangeSize, writeCount := satAdd 65535 p.writeCount 1
            writeBuffer := if p.writeBuffer.length < 64 then p.writeBuffer ++ [b] else p.writeBuffer }
      | some .unknown | none => s
  | .ignore | .waitCs => s.setPort { p with out := p.out ++ [Config.undrivenOut p.out.length] }

/-- The end of a piece of a transaction: chip select rises or stays low. -/
def endPiece (x : Xfer) (s : State) : State :=
  match x.rise with
  | some bits => csRise x.takes bits.val s
  | none => s

/-- A piece of a transaction of one command (R166). It occurs only while chip select stands as the piece needs it. -/
def transfer (k : LinkCommand) (code : Byte) (x : Xfer) (s : State) : State :=
  if x.fall then
    if s.lnk.port.csLow then s else endPiece x (x.bytes.foldl clockByte (clockByte (csFall s) code))
  else if s.lnk.port.csLow && s.lnk.port.command == some k then endPiece x (x.bytes.foldl clockByte s)
  else s

/-- A whole WRITE transaction: the bytes at an address, chip select rising on the byte boundary.
DESIGN CHOICE: log entry 28. -/
def hostWrite (a : Nat) (data : List Byte) (s : State) : State :=
  transfer .write 0x5C { fall := true, bytes := le 2 a ++ data, rise := some 0, takes := [] } s

/-- Chip select rises in WAIT_CS (R164). -/
def endWait (s : State) : State :=
  if s.lnk.port.state = .waitCs then s.setPort { s.lnk.port with csLow := false, state := .idle } else s

/-- The WRITE of an order into slot k: stamp, code, arguments. -/
def orderWrite (k : Fin 8) (stamp code : Byte) (args : List Byte) (s : State) : State :=
  hostWrite (orderAddr k) (stamp :: code :: args) s

end Sys2Proof.Machine
end

