-- ==== Sys2Proof/Machine/LinkCommands.lean ====
section
/-! DEFINITION. The meanings of the link rows and of the WRITEs that the table names by their takes. -/

namespace Sys2Proof.Machine

/-- READ (R166, R167). -/
def execRead (t : Nat) (x : Xfer) (s : State) : Host.Outcome State Fault Refusal :=
  live t (transfer .read 0x3A x) s

/-- WRITE (R166, R169). -/
def execWrite (t : Nat) (x : Xfer) (s : State) : Host.Outcome State Fault Refusal :=
  live t (transfer .write 0x5C x) s

/-- STATUS (R168). -/
def execStatus (t : Nat) (x : Xfer) (s : State) : Host.Outcome State Fault Refusal :=
  live t (transfer .status 0x71 x) s

/-- UNKNOWN_COMMAND (R166): the port goes to IGNORE. -/
def execUnknownCommand (t : Nat) (code : Byte) (x : Xfer) (s : State) : Host.Outcome State Fault Refusal :=
  live t (transfer .unknown code x) s

/-- CHIP_SELECT_RISE_IN_WAIT_CS (R164). -/
def execChipSelectRiseInWaitCs (t : Nat) (s : State) : Host.Outcome State Fault Refusal :=
  live t endWait s

/-- JOURNAL_FREE (R170, R175): the WRITE of slot j's post mark into its clear mark. -/
def execJournalFree (t : Nat) (j : Fin 32) (s : State) : Host.Outcome State Fault Refusal :=
  live t (fun s => hostWrite (journalAddr j.val + 1) [s.lnk.journal[j].post] s) s

/-- HOST_CAUSE_TAKE (R58, R171): the WRITE of host cause record n. -/
def execHostCauseTake (t : Nat) (n : Fin 32) (stamp request tag argument : Byte) (s : State) : Host.Outcome State Fault Refusal :=
  live t (hostWrite (0x100 + 4 * n.val) [stamp, request, tag, argument]) s

/-- GAUGE_DEMAND_TAKE (R29, R171): the WRITE of gauge demand record c. -/
def execGaugeDemandTake (t : Nat) (c : Fin 8) (stamp mode : Byte) (value : BitVec 16) (s : State) : Host.Outcome State Fault Refusal :=
  live t (hostWrite (0x180 + 8 * c.val) ([stamp, mode] ++ le 2 value.toNat)) s

/-- TEXT_TAKE (R136, R171): the WRITE of text record n. -/
def execTextTake (t : Nat) (n : Fin 4) (stamp : Byte) (codes : Vector Byte 12) (s : State) : Host.Outcome State Fault Refusal :=
  live t (hostWrite (0x1C0 + 16 * n.val) (stamp :: codes.toList)) s

end Sys2Proof.Machine
end

