-- ==== Sys2Proof/Machine/OrderCommands.lean ====
section
/-! DEFINITION. The meanings of the ten orders: each is the WRITE that places it in a slot (R171, R180). -/

namespace Sys2Proof.Machine

/-- ACKNOWLEDGE (R183): the WRITE of the order into slot k. -/
def execAcknowledge (t : Nat) (k : Fin 8) (stamp cause : Byte) (s : State) : Host.Outcome State Fault Refusal :=
  live t (orderWrite k stamp 0x01 [cause]) s

/-- RESET_TRIP (R184): the WRITE of the order into slot k. -/
def execResetTrip (t : Nat) (k : Fin 8) (stamp trip : Byte) (s : State) : Host.Outcome State Fault Refusal :=
  live t (orderWrite k stamp 0x02 [trip]) s

/-- REHOME (R185): the WRITE of the order into slot k. -/
def execRehome (t : Nat) (k : Fin 8) (stamp mask : Byte) (s : State) : Host.Outcome State Fault Refusal :=
  live t (orderWrite k stamp 0x03 [mask]) s

/-- LAMP_TEST (R186): the WRITE of the order into slot k. -/
def execLampTest (t : Nat) (k : Fin 8) (stamp seconds : Byte) (s : State) : Host.Outcome State Fault Refusal :=
  live t (orderWrite k stamp 0x04 [seconds]) s

/-- SET_TIME (R187): the WRITE of the order into slot k. -/
def execSetTime (t : Nat) (k : Fin 8) (stamp : Byte) (day minute : BitVec 16) (second : Byte) (s : State) : Host.Outcome State Fault Refusal :=
  live t (orderWrite k stamp 0x05 (le 2 day.toNat ++ le 2 minute.toNat ++ [second])) s

/-- TAKE_SNAPSHOT (R188): the WRITE of the order into slot k. -/
def execTakeSnapshot (t : Nat) (k : Fin 8) (stamp : Byte) (s : State) : Host.Outcome State Fault Refusal :=
  live t (orderWrite k stamp 0x06 []) s

/-- SAVE_SETTINGS (R189): the WRITE of the order into slot k. -/
def execSaveSettings (t : Nat) (k : Fin 8) (stamp : Byte) (s : State) : Host.Outcome State Fault Refusal :=
  live t (orderWrite k stamp 0x07 []) s

/-- CALIBRATE (R190): the WRITE of the order into slot k. -/
def execCalibrate (t : Nat) (k : Fin 8) (stamp : Byte) (pulse : BitVec 16) (s : State) : Host.Outcome State Fault Refusal :=
  live t (orderWrite k stamp 0x08 (le 2 pulse.toNat)) s

/-- PRESET_ODOMETER (R191): the WRITE of the order into slot k. -/
def execPresetOdometer (t : Nat) (k : Fin 8) (stamp : Byte) (total : BitVec 32) (s : State) : Host.Outcome State Fault Refusal :=
  live t (orderWrite k stamp 0x09 (le 4 total.toNat)) s

/-- LOCK_CALIBRATION (R192): the WRITE of the order into slot k. -/
def execLockCalibration (t : Nat) (k : Fin 8) (stamp : Byte) (s : State) : Host.Outcome State Fault Refusal :=
  live t (orderWrite k stamp 0x0A []) s

end Sys2Proof.Machine
end

