-- ==== Sys2Proof/Machine/PowerCommands.lean ====
section
/-! DEFINITION. The meanings of PSC's rows. -/

namespace Sys2Proof.Machine

/-- RESET_BEGIN (R193, R159). In reset no time base runs. -/
def execResetBegin (t : Nat) (source : ResetSource) (s : State) : Host.Outcome State Fault Refusal :=
  .next (beginReset source (if s.psc.held then s else tick t s))

/-- RESET (R193): the reset ends. It occurs only while the part is held in reset. -/
def execReset (t : Nat) (pins : Pins) (s : State) : Host.Outcome State Fault Refusal :=
  .next (if s.psc.held then afterReset pins (tick t s) else tick t s)

/-- LOADING_END (R162, R196). -/
def execLoadingEnd (t : Nat) (order : List Block) (s : State) : Host.Outcome State Fault Refusal :=
  live t (fun s => onlyIf (inLoading s) (endLoading order) s) s

/-- IGN_INPUT_CHANGE (R195). -/
def execIgnInputChange (t : Nat) (on : Bool) (s : State) : Host.Outcome State Fault Refusal :=
  live t (ignRawChange on) s

/-- IGN_TAKES_NEW_LEVEL_IN_LOADING (R195). -/
def execIgnTakesNewLevelInLoading (t : Nat) (s : State) : Host.Outcome State Fault Refusal :=
  live t (fun s => onlyIf (inLoading s && ignDue s) ignTake s) s

/-- RUN_ENTRY (R195, R197): IGN becomes on in STANDBY. -/
def execRunEntry (t : Nat) (order : List Block) (s : State) : Host.Outcome State Fault Refusal :=
  live t (fun s => onlyIf (inStandby s && !s.psc.ign && ignDue s) (enterRun order) s) s

/-- STANDBY_ENTRY (R195, R197): IGN becomes off in RUN. -/
def execStandbyEntry (t : Nat) (order : List Block) (s : State) : Host.Outcome State Fault Refusal :=
  live t (fun s => onlyIf (inRun s && s.psc.ign && ignDue s) (enterStandby order) s) s

/-- PROOF_END (R198). -/
def execProofEnd (t : Nat) (s : State) : Host.Outcome State Fault Refusal :=
  live t (fun s => onlyIf (s.psc.power == .proof && expired s.now s.psc.proofTimer) endProof s) s

/-- SUPPLY_INDICATION_CHANGE (R199). -/
def execSupplyIndicationChange (t : Nat) (low : Bool) (s : State) : Host.Outcome State Fault Refusal :=
  live t (supplyChange low) s

/-- LOW_SET (R199). -/
def execLowSet (t : Nat) (s : State) : Host.Outcome State Fault Refusal :=
  live t (fun s => onlyIf (!s.psc.low && supplyDue s) setLow s) s

/-- LOW_CLEAR (R199). -/
def execLowClear (t : Nat) (order : List Block) (s : State) : Host.Outcome State Fault Refusal :=
  live t (fun s => onlyIf (s.psc.low && supplyDue s) (clearLow order) s) s

/-- LOW_SUPPLY_TIMER_EXPIRY (R200). -/
def execLowSupplyTimerExpiry (t : Nat) (s : State) : Host.Outcome State Fault Refusal :=
  live t (fun s => onlyIf (expired s.now s.psc.lowTimer) expireLowSupply s) s

end Sys2Proof.Machine
end

