-- ==== Sys2Proof/Machine/SpeedCommands.lean ====
section
/-! DEFINITION. The meanings of SPD's rows. -/

namespace Sys2Proof.Machine

/-- SPEED_EDGE (R4, R5). -/
def execSpeedEdge (t : Nat) (rising : Bool) (s : State) : Host.Outcome State Fault Refusal :=
  live t (speedTransition rising) s

/-- SPEED_UPDATE (R10). -/
def execSpeedUpdate (t : Nat) (s : State) : Host.Outcome State Fault Refusal :=
  live t speedUpdate s

/-- STALL_TIMER_EXPIRY (R11). -/
def execStallTimerExpiry (t : Nat) (s : State) : Host.Outcome State Fault Refusal :=
  live t (fun s => onlyIf (expired s.now s.spd.stallTimer) expireStall s) s

/-- PRESET_APPLY (R19). -/
def execPresetApply (t : Nat) (k : Fin 8) (s : State) : Host.Outcome State Fault Refusal :=
  live t (applyPreset k) s

end Sys2Proof.Machine
end

