-- ==== Sys2Proof/Machine/StoreCommands.lean ====
section
/-! DEFINITION. The meanings of NVS's rows. -/

namespace Sys2Proof.Machine

/-- NVS_START (R155). -/
def execNvsStart (t : Nat) (s : State) : Host.Outcome State Fault Refusal :=
  live t nvsStart s

/-- ODO_PROGRAM_END (R145). -/
def execOdoProgramEnd (t : Nat) (cells : Cells) (s : State) : Host.Outcome State Fault Refusal :=
  live t (programEnd .odo endOdo cells) s

/-- CAL_PROGRAM_END (R148). -/
def execCalProgramEnd (t : Nat) (cells : Cells) (s : State) : Host.Outcome State Fault Refusal :=
  live t (programEnd .cal endCal cells) s

/-- SNAP_PROGRAM_END (R150). -/
def execSnapProgramEnd (t : Nat) (cells : Cells) (s : State) : Host.Outcome State Fault Refusal :=
  live t (programEnd .snap endSnap cells) s

/-- SETS_ERASE_STEP_END (R153). -/
def execSetsEraseStepEnd (t : Nat) (s : State) : Host.Outcome State Fault Refusal :=
  live t (fun s => match eraseDue true s with
    | some e => endSetsErase e s
    | none => s) s

/-- SETS_PROGRAM_END (R153). -/
def execSetsProgramEnd (t : Nat) (cells : Cells) (s : State) : Host.Outcome State Fault Refusal :=
  live t (programEnd .sets endSets cells) s

/-- ERASE_END (R146). -/
def execEraseEnd (t : Nat) (s : State) : Host.Outcome State Fault Refusal :=
  live t (fun s => match eraseDue false s with
    | some e => endErase e s
    | none => s) s

end Sys2Proof.Machine
end

