-- ==== Sys2Proof/Machine/TelltaleCommands.lean ====
section
/-! DEFINITION. The meanings of TTU's rows. -/

namespace Sys2Proof.Machine

/-- The debounce time of the ACK input (R59). -/
def ackTime : Nat := 30000

/-- The raw level of the button changes (R59). -/
def ackRawChange (pressed : Bool) (s : State) : State :=
  s.setTtu { s.ttu with ackRaw := pressed, ackRun := debounceRun pressed s.ttu.ack s.ttu.ackRun s.now }

/-- The debounced ACK input takes the level that the button has held for 30 ms. -/
def ackTake (s : State) : State := s.setTtu { s.ttu with ack := !s.ttu.ack, ackRun := none }

/-- A new level has been held for 30 ms. TTU keeps the ACK input released through LOADING (R51).
DEDUCED: log entry 35. -/
def ackDue (s : State) : Bool := !inLoading s && lasted s.now ackTime s.ttu.ackRun

/-- The period of the playing chime that has ended (R71). -/
def chimePeriodEnd (s : State) : State :=
  match s.ttu.playing with
  | some p => if p.endsAt ≤ s.now then endChimePeriod p s else s
  | none => s

/-- ACK_INPUT_CHANGE (R59). -/
def execAckInputChange (t : Nat) (pressed : Bool) (s : State) : Host.Outcome State Fault Refusal :=
  live t (ackRawChange pressed) s

/-- ACK_PRESS (R59). -/
def execAckPress (t : Nat) (s : State) : Host.Outcome State Fault Refusal :=
  live t (fun s => onlyIf (!s.ttu.ack && ackDue s) (fun s => ackPressed (ackTake s)) s) s

/-- ACK_RELEASE (R59). -/
def execAckRelease (t : Nat) (s : State) : Host.Outcome State Fault Refusal :=
  live t (fun s => onlyIf (s.ttu.ack && ackDue s) ackTake s) s

/-- BLINK_PHASE_STEP (R63), with a lamp evaluation of every lamp (R65). -/
def execBlinkPhaseStep (t : Nat) (s : State) : Host.Outcome State Fault Refusal :=
  live t (fun s => onlyIf (inRun s) (fun s => lampEvaluation (s.setTtu { s.ttu with blink := (s.ttu.blink + 1) % 8 })) s) s

/-- LAMP_DIAGNOSTIC_SAMPLE (R66). No sample is taken outside RUN (R78). -/
def execLampDiagnosticSample (t : Nat) (openLamps : List (Fin 48)) (s : State) : Host.Outcome State Fault Refusal :=
  live t (fun s => onlyIf (inRun s) (lampSample openLamps) s) s

/-- LAMP_TEST_END (R69). -/
def execLampTestEnd (t : Nat) (s : State) : Host.Outcome State Fault Refusal :=
  live t (fun s => onlyIf (expired s.now s.ttu.lampTest) endLampTest s) s

/-- SILENCE_TIMER_EXPIRY (R73). -/
def execSilenceTimerExpiry (t : Nat) (s : State) : Host.Outcome State Fault Refusal :=
  live t (fun s => onlyIf (expired s.now s.ttu.silence) (fun s => chimeStart (s.setTtu { s.ttu with silence := none })) s) s

/-- CHIME_PERIOD_END (R71). -/
def execChimePeriodEnd (t : Nat) (s : State) : Host.Outcome State Fault Refusal :=
  live t chimePeriodEnd s

end Sys2Proof.Machine
end

