-- ==== Sys2Proof/Machine/TimeCommands.lean ====
section
/-! DEFINITION. The meanings of DTU's rows. -/

namespace Sys2Proof.Machine

/-- The second rolls over (R97): not in LOADING. -/
def secondDue (s : State) : Bool := !inLoading s && secondOver s

/-- SECOND_CHANGE (R97). -/
def execSecondChange (t : Nat) (s : State) : Host.Outcome State Fault Refusal :=
  live t (fun s => onlyIf (secondDue s) secondTick s) s

/-- MINUTE_EVENT (R97, R100): the rollover of second 59. -/
def execMinuteEvent (t : Nat) (s : State) : Host.Outcome State Fault Refusal :=
  live t (fun s => onlyIf (secondDue s && decide (59 ≤ s.dtu.second)) secondTick s) s

/-- SNAPSHOT_TIMER_EXPIRY (R118): the timer runs in STANDBY. -/
def execSnapshotTimerExpiry (t : Nat) (s : State) : Host.Outcome State Fault Refusal :=
  live t (fun s => onlyIf (inStandby s && expired s.now s.dtu.snapTimer) (fun s => startSnapTimer (placeSnap s)) s) s

end Sys2Proof.Machine
end

