-- ==== Sys2Proof/Machine/Dispatch.lean ====
section
/-! DEFINITION. One arm per command: each is one call of its meaning. -/

namespace Sys2Proof.Machine

/-- The effect of a command on everything but the queue. -/
def exec (i : Instr) (s : State) : Host.Outcome State Fault Refusal :=
  match i with
  | .read t x => Sys2Proof.Machine.execRead t x s
  | .write t x => Sys2Proof.Machine.execWrite t x s
  | .status t x => Sys2Proof.Machine.execStatus t x s
  | .unknownCommand t code x => Sys2Proof.Machine.execUnknownCommand t code x s
  | .journalFree t j => Sys2Proof.Machine.execJournalFree t j s
  | .hostCauseTake t n stamp request tag argument => Sys2Proof.Machine.execHostCauseTake t n stamp request tag argument s
  | .gaugeDemandTake t c stamp mode value => Sys2Proof.Machine.execGaugeDemandTake t c stamp mode value s
  | .textTake t n stamp codes => Sys2Proof.Machine.execTextTake t n stamp codes s
  | .acknowledge t k stamp cause => Sys2Proof.Machine.execAcknowledge t k stamp cause s
  | .resetTrip t k stamp trip => Sys2Proof.Machine.execResetTrip t k stamp trip s
  | .rehome t k stamp mask => Sys2Proof.Machine.execRehome t k stamp mask s
  | .lampTest t k stamp seconds => Sys2Proof.Machine.execLampTest t k stamp seconds s
  | .setTime t k stamp day minute second => Sys2Proof.Machine.execSetTime t k stamp day minute second s
  | .takeSnapshot t k stamp => Sys2Proof.Machine.execTakeSnapshot t k stamp s
  | .saveSettings t k stamp => Sys2Proof.Machine.execSaveSettings t k stamp s
  | .calibrate t k stamp pulse => Sys2Proof.Machine.execCalibrate t k stamp pulse s
  | .presetOdometer t k stamp total => Sys2Proof.Machine.execPresetOdometer t k stamp total s
  | .lockCalibration t k stamp => Sys2Proof.Machine.execLockCalibration t k stamp s
  | .speedEdge t rising => Sys2Proof.Machine.execSpeedEdge t rising s
  | .speedUpdate t => Sys2Proof.Machine.execSpeedUpdate t s
  | .stallTimerExpiry t => Sys2Proof.Machine.execStallTimerExpiry t s
  | .presetApply t k => Sys2Proof.Machine.execPresetApply t k s
  | .filterEvent t => Sys2Proof.Machine.execFilterEvent t s
  | .stepEvent t silent => Sys2Proof.Machine.execStepEvent t silent s
  | .homingEnd t c => Sys2Proof.Machine.execHomingEnd t c s
  | .freshnessExpiry t c => Sys2Proof.Machine.execFreshnessExpiry t c s
  | .ackInputChange t pressed => Sys2Proof.Machine.execAckInputChange t pressed s
  | .ackPress t => Sys2Proof.Machine.execAckPress t s
  | .blinkPhaseStep t => Sys2Proof.Machine.execBlinkPhaseStep t s
  | .lampDiagnosticSample t openLamps => Sys2Proof.Machine.execLampDiagnosticSample t openLamps s
  | .lampTestEnd t => Sys2Proof.Machine.execLampTestEnd t s
  | .silenceTimerExpiry t => Sys2Proof.Machine.execSilenceTimerExpiry t s
  | .chimePeriodEnd t => Sys2Proof.Machine.execChimePeriodEnd t s
  | .byteCompletion t b stopHigh => Sys2Proof.Machine.execByteCompletion t b stopHigh s
  | .timeFrame t day minute second => Sys2Proof.Machine.execTimeFrame t day minute second s
  | .activityFrame t slot activity minute => Sys2Proof.Machine.execActivityFrame t slot activity minute s
  | .cardFrame t f => Sys2Proof.Machine.execCardFrame t f s
  | .presenceFrame t activity1 activity2 flags => Sys2Proof.Machine.execPresenceFrame t activity1 activity2 flags s
  | .byteGapExpiry t => Sys2Proof.Machine.execByteGapExpiry t s
  | .lineTimerExpiry t => Sys2Proof.Machine.execLineTimerExpiry t s
  | .lineMirrorUpdate t => Sys2Proof.Machine.execLineMirrorUpdate t s
  | .minuteEvent t => Sys2Proof.Machine.execMinuteEvent t s
  | .snapshotTimerExpiry t => Sys2Proof.Machine.execSnapshotTimerExpiry t s
  | .composeEvent t => Sys2Proof.Machine.execComposeEvent t s
  | .blinkStep t => Sys2Proof.Machine.execBlinkStep t s
  | .frameStart t => Sys2Proof.Machine.execFrameStart t s
  | .nvsStart t => Sys2Proof.Machine.execNvsStart t s
  | .odoProgramEnd t cells => Sys2Proof.Machine.execOdoProgramEnd t cells s
  | .calProgramEnd t cells => Sys2Proof.Machine.execCalProgramEnd t cells s
  | .snapProgramEnd t cells => Sys2Proof.Machine.execSnapProgramEnd t cells s
  | .setsEraseStepEnd t => Sys2Proof.Machine.execSetsEraseStepEnd t s
  | .setsProgramEnd t cells => Sys2Proof.Machine.execSetsProgramEnd t cells s
  | .eraseEnd t => Sys2Proof.Machine.execEraseEnd t s
  | .reset t pins => Sys2Proof.Machine.execReset t pins s
  | .loadingEnd t order => Sys2Proof.Machine.execLoadingEnd t order s
  | .ignInputChange t on => Sys2Proof.Machine.execIgnInputChange t on s
  | .runEntry t order => Sys2Proof.Machine.execRunEntry t order s
  | .standbyEntry t order => Sys2Proof.Machine.execStandbyEntry t order s
  | .proofEnd t => Sys2Proof.Machine.execProofEnd t s
  | .supplyIndicationChange t low => Sys2Proof.Machine.execSupplyIndicationChange t low s
  | .lowSet t => Sys2Proof.Machine.execLowSet t s
  | .lowClear t order => Sys2Proof.Machine.execLowClear t order s
  | .lowSupplyTimerExpiry t => Sys2Proof.Machine.execLowSupplyTimerExpiry t s
  | .ignTakesNewLevelInLoading t => Sys2Proof.Machine.execIgnTakesNewLevelInLoading t s
  | .ackRelease t => Sys2Proof.Machine.execAckRelease t s
  | .secondChange t => Sys2Proof.Machine.execSecondChange t s
  | .lineIdleAfterStopBitError t => Sys2Proof.Machine.execLineIdleAfterStopBitError t s
  | .chipSelectRiseInWaitCs t => Sys2Proof.Machine.execChipSelectRiseInWaitCs t s
  | .resetBegin t source => Sys2Proof.Machine.execResetBegin t source s

end Sys2Proof.Machine
end

