-- ==== Sys2Proof/Machine/Outputs.lean ====
section
/-! DEFINITION. The output pins as functions of the state: coils (R26), lamp sinks, the sounder (R70, R71), the panel
(R124), data out and ATTN (R176). No command reads them. While a reset holds the part every block stands at the values it will
start from (`beginReset`), so the coils carry no current, the lamps are off, the sounder is low and the panel is undriven.
DEDUCED: log entry 33. -/

namespace Sys2Proof.Machine

/-! ### Gauge coils (R26) -/

/-- The coils of a channel state carry current. -/
def ChannelState.energised : ChannelState → Bool
  | .homing | .sweep | .tracking | .stale | .parking => true
  | .unhomed | .parked | .fault => false

/-- The electrical angle of a channel in steps of 7.5°; none while its coils are de-energised. Coil A carries the drive
current times the cosine and coil B times the sine. -/
def coilAngle (s : State) (c : Fin 8) : Option Nat :=
  if (s.channel c).state.energised then some ((s.channel c).pos % 48) else none

inductive Coil
  | a | b
  deriving DecidableEq, Repr

/-- The undriven coil at a full-step position: the one that carries no current. -/
def undrivenCoil (pos : Nat) : Option Coil :=
  if pos % 12 ≠ 0 then none else if pos / 12 % 2 = 0 then some .b else some .a

/-! ### Lamps and the sounder (R63, R70, R71) -/

/-- The sink of lamp l conducts. -/
def lampSink (s : State) (l : Fin 48) : Bool := s.ttu.lamps[l].output

/-- The tone of an on-period: tone 2, where present, takes every second one. -/
def ChimePattern.tone (p : ChimePattern) (onCount : Nat) : Tone :=
  match p.tone2 with
  | some t => if onCount % 2 = 0 then t else p.tone1
  | none => p.tone1

/-- The period of a tone's square wave in µs (R70): f is 1,000,000 over it. -/
def Tone.period (t : Tone) : Nat := 2 * t.div * (t.n + 1)

/-- The tone the sounder output carries; none while the output is held low. -/
def sounderTone (s : State) : Option Tone :=
  match s.ttu.playing with
  | some p => if p.isOn then some (p.pattern.tone p.onCount) else none
  | none => none

/-! ### The panel (R124) -/

/-- The four drive levels, V0 to V3. -/
inductive Level
  | v0 | v1 | v2 | v3
  deriving DecidableEq, Repr

/-- The level of a common line in a phase. An undriven panel holds V0, in reset too. DEDUCED: log entry 33. -/
def comLevel (s : State) (phase com : Fin 4) : Level :=
  if s.sdu.panel = .undriven then .v0
  else if com = phase then (if s.sdu.drive.inverted then .v0 else .v3)
  else if s.sdu.drive.inverted then .v2 else .v1

/-- A position is lit in an image. -/
def Image.lit (img : Image) (com : Fin 4) (seg : Nat) : Bool := img[com].getLsbD seg

/-- The level of a segment line in a phase. An undriven panel holds V0, in reset too. DEDUCED: log entry 33. -/
def segLevel (s : State) (phase : Fin 4) (seg : Fin 52) : Level :=
  if s.sdu.panel = .undriven then .v0
  else if s.sdu.drive.image.lit phase seg.val then (if s.sdu.drive.inverted then .v3 else .v0)
  else if s.sdu.drive.inverted then .v1 else .v2

/-- The frame length of a frame rate code, in half µs. -/
def frameLength2 : Nat → Nat
  | 0 => 31250
  | 2 => 20000
  | 3 => 15625
  | _ => 25000

/-! ### The link (R166, R176) -/

/-- ATTN is driven low. -/
def attnLow (s : State) : Bool := attention s

/-- The byte shifted out last in the present transaction. -/
def lastOut (s : State) : Option Byte := s.lnk.port.out.getLast?

end Sys2Proof.Machine
end

