-- ==== Sys2Proof/Safety.lean ====
section
/-! DEFINITION. What claims are stated in: the parts of the state that a frame names, the hypotheses under which a command
occurs, and the invariants of the part. -/

namespace Sys2Proof.Machine

/-! ### Frames -/

/-- A part of the state, as frames name it. -/
inductive Part
  | psc | spd | gau | ttu | tlr | dtu | sdu
  /-- NVS's state but for the calibration in force, the array and the note of its slots cut off. -/
  | nvs
  /-- The pulse constant in force and the lock state. -/
  | calibration
  /-- The array, with the model's note of its calibration slots that a reset cut off. -/
  | array
  /-- The host-owned bytes of the exchange memory. -/
  | host
  | port | discard
  /-- The journal slots, the cursor, the post counter and the backlog. -/
  | journal
  | causeEcho | gaugeEcho | textEcho
  /-- The order logic's part of the order slots. -/
  | orders
  /-- The number of free values used. -/
  | freeCount
  deriving DecidableEq, Repr

/-- A part of the state is the same in two states. -/
def Part.same : Part → State → State → Prop
  | .psc, a, b => a.psc = b.psc
  | .spd, a, b => a.spd = b.spd
  | .gau, a, b => a.gau = b.gau
  | .ttu, a, b => a.ttu = b.ttu
  | .tlr, a, b => a.tlr = b.tlr
  | .dtu, a, b => a.dtu = b.dtu
  | .sdu, a, b => a.sdu = b.sdu
  | .nvs, a, b =>
      { a.nvs with array := b.nvs.array, calCut := b.nvs.calCut, pulse := b.nvs.pulse, locked := b.nvs.locked } = b.nvs
  | .calibration, a, b => a.nvs.pulse = b.nvs.pulse ∧ a.nvs.locked = b.nvs.locked
  | .array, a, b => a.nvs.array = b.nvs.array ∧ a.nvs.calCut = b.nvs.calCut
  | .host, a, b => a.host = b.host
  | .port, a, b => a.lnk.port = b.lnk.port
  | .discard, a, b => a.lnk.discard = b.lnk.discard
  | .journal, a, b =>
      a.lnk.journal = b.lnk.journal ∧ a.lnk.cursor = b.lnk.cursor ∧
        a.lnk.postCounter = b.lnk.postCounter ∧ a.lnk.backlog = b.lnk.backlog
  | .causeEcho, a, b => a.lnk.causeEcho = b.lnk.causeEcho
  | .gaugeEcho, a, b => a.lnk.gaugeEcho = b.lnk.gaugeEcho
  | .textEcho, a, b => a.lnk.textEcho = b.lnk.textEcho
  | .orders, a, b => a.lnk.orders = b.lnk.orders
  | .freeCount, a, b => a.freeCount = b.freeCount

/-- Every part but those named is the same, and so are the time base and the queue of waiting commands. -/
def OnlyChanges (ps : List Part) (a b : State) : Prop :=
  a.now = b.now ∧ a.pending = b.pending ∧ ∀ p : Part, p ∉ ps → p.same a b

/-! ### When commands occur -/

/-- No reset holds the part (R193). -/
def Awake (s : State) : Prop := s.psc.held = false

/-- A host WRITE can begin and will not find LOADING: chip select is high (R166, R169). -/
def LinkFree (s : State) : Prop := s.lnk.port.csLow = false ∧ inLoading s = false

/-- Both memories have the canonical form. -/
def MemoriesCanonical (s : State) : Prop :=
  Memory.wf 0 s.host = true ∧ Memory.wf 0xFF s.nvs.array = true

/-- Order slot k is free for an order with this stamp (R170, R171, R179): its stamp equals its echo, and the new stamp
differs from both. -/
def SlotFree (s : State) (k : Fin 8) (stamp : Byte) : Prop :=
  orderStamp s k = (s.orderSlot k).echo ∧ stamp ≠ orderStamp s k

/-- The link, the slot and the memories stand so that an order written into slot k at instant t is taken. -/
def OrderTaken (t : Nat) (k : Fin 8) (stamp : Byte) (s : State) : Prop :=
  Awake s ∧ LinkFree (tick t s) ∧ SlotFree (tick t s) k stamp ∧ MemoriesCanonical s

/-- An order slot after an answer given at once, or after a long order's completion (R180, R181). -/
def Answered (u : State) (k : Fin 8) (stamp result : Byte) (detail : Nat) : Prop :=
  u.orderSlot k = { progress := .idle, echo := stamp, result := result, detail := detail }

/-- An order slot whose long order was taken (R180): PENDING, detail 0, the echo unchanged. -/
def Pended (u s : State) (k : Fin 8) : Prop :=
  (u.orderSlot k).result = resPending ∧ (u.orderSlot k).detail = 0 ∧ (u.orderSlot k).echo = (s.orderSlot k).echo ∧
    (u.orderSlot k).progress ≠ .idle

/-- The other seven order slots are as they were. -/
def OtherSlotsKept (u s : State) (k : Fin 8) : Prop := ∀ j, j ≠ k → u.orderSlot j = s.orderSlot j

/-- A record that some event handed LNK (R173, R174): it stands in the slot that was at the cursor, or as the
latest of its kind in the backlog. -/
def Recorded (u s : State) (kind : RecordKind) (payload : List Byte) : Prop :=
  (slotFilled s (cursorSlot s) = false ∧ u.lnk.journal[cursorSlot s].kind = kind ∧
      u.lnk.journal[cursorSlot s].payload = padTo 8 payload) ∨
    (slotFilled s (cursorSlot s) = true ∧
      ∃ e ∈ u.lnk.backlog, e.kind = kind ∧ e.payload = padTo 8 payload)

/-- Some event posted a record of a kind (R173, R174): it stands in a slot that was free, or in the backlog. -/
def Posted (u s : State) (kind : RecordKind) (payload : List Byte) : Prop :=
  (∃ j : Fin 32, slotFilled s j = false ∧ u.lnk.journal[j] ≠ s.lnk.journal[j] ∧ u.lnk.journal[j].kind = kind ∧
      u.lnk.journal[j].payload = padTo 8 payload) ∨
    ∃ e ∈ u.lnk.backlog, e.kind = kind ∧ e.payload = padTo 8 payload

/-- No event posted a record of a kind. -/
def NotPosted (u s : State) (kind : RecordKind) : Prop :=
  (∀ j : Fin 32, u.lnk.journal[j] = s.lnk.journal[j] ∨ u.lnk.journal[j].kind ≠ kind) ∧
    ∀ e ∈ u.lnk.backlog, e.kind = kind → e ∈ s.lnk.backlog

/-- u's journal is what LNK makes of one record that is handed to it in s, at s's time of day (R173, R174): a whole slot at a
free cursor, or a fold into the backlog. -/
def Handed (u s : State) (kind : RecordKind) (payload : List Byte) : Prop :=
  (slotFilled s (cursorSlot s) = false →
    u.lnk.journal[cursorSlot s] =
        { post := clearMark s (cursorSlot s) + 1, kind := kind, fold := 1, sequence := s.lnk.postCounter
          day := s.dtu.day % 512, minute := s.dtu.minute, payload := padTo 8 payload } ∧
      (∀ j : Fin 32, j ≠ cursorSlot s → u.lnk.journal[j] = s.lnk.journal[j]) ∧
      u.lnk.cursor = (s.lnk.cursor + 1) % 32 ∧ u.lnk.postCounter = (s.lnk.postCounter + 1) % 65536 ∧
      u.lnk.backlog = s.lnk.backlog) ∧
    (slotFilled s (cursorSlot s) = true →
      u.lnk.journal = s.lnk.journal ∧ u.lnk.cursor = s.lnk.cursor ∧ u.lnk.postCounter = s.lnk.postCounter ∧
        ((∀ e ∈ s.lnk.backlog, e.kind ≠ kind) → u.lnk.backlog = s.lnk.backlog ++
          [{ kind := kind, fold := 1, day := s.dtu.day % 512, minute := s.dtu.minute, payload := padTo 8 payload }]) ∧
        ∀ (before rest : List BacklogEntry) (e : BacklogEntry), s.lnk.backlog = before ++ e :: rest → e.kind = kind →
          (∀ x ∈ before, x.kind ≠ kind) → u.lnk.backlog = before ++
            { kind := kind, fold := min 255 (e.fold + 1), day := s.dtu.day % 512, minute := s.dtu.minute
              payload := padTo 8 payload } :: rest)

/-! ### The exchange memory (R165, R202–R206) -/

/-- The line of 16 bytes from address a upward reads as these fields and, after the last of them, 00h (R202). -/
def LineShows (s : State) (a : Nat) (fields : List Byte) : Prop :=
  ∀ i, i < 16 → exchangeByte s (a + i) = fields.getD i 0

/-- The codes of R203. -/
def CodesRight : Prop :=
  [Power.loading, .proof, .normal, .standby].map Power.code = [0, 1, 2, 3] ∧
    [ResetCause.powerOn, .external].map ResetCause.code = [0, 1] ∧
    [GateState.idle, .gating, .running].map GateState.code = [0, 1, 2] ∧
    [ChannelState.unhomed, .homing, .sweep, .tracking, .stale, .parking, .parked, .fault].map ChannelState.code =
      [0, 1, 2, 3, 4, 5, 6, 7] ∧
    [DemandMode.track, .hold, .rest].map DemandMode.code = [0, 1, 2] ∧
    [CauseState.clear, .active, .acked, .held].map CauseState.code = [0, 1, 2, 3] ∧
    [LampPattern.steady, .slow, .fast, .flash].map LampPattern.code = [0, 1, 2, 3] ∧
    [LineState.unknown, .alive, .lost].map LineState.code = [0, 1, 2] ∧
    [Activity.rest, .available, .work, .drive, .unknown].map Activity.code = [0, 1, 2, 3, 4] ∧
    [Source.none, .tacho, .presence, .implied].map Source.code = [0, 1, 2, 3] ∧
    [PanelState.undriven, .allOn, .composed].map PanelState.code = [0, 1, 2] ∧
    [FieldState.off, .invalid, .shown, .overrange, .noData].map FieldState.code = [0, 1, 2, 3, 4] ∧
    [RecordKind.causeChange, .gaugeState, .lampFault, .lineState, .lineError, .card, .activity, .driveLimit,
      .motionConflict, .timeSet, .storeFault, .orderDone, .power, .loadOutcome, .snapshotSaved].map RecordKind.code =
      List.range 15

/-- The header (R177, R205), with NVS's state as R163 gives it and the class counts of R57. -/
def HeaderShows (s : State) : Prop :=
  (∀ count : Nat → Nat, (∀ k, count k = (List.finRange 53).countP fun n =>
      decide ((s.causeOf n).state ≠ .clear ∧ (s.causeOf n).cls = k)) →
    LineShows s 0x00 ([0x08, 0x32, 0x01, u8 s.psc.cause.code, u8 s.psc.power.code, u8 (flag s.psc.low),
        u8 (flag s.nvs.loadDefaulted),
        if s.nvs.faults.odo || s.nvs.faults.cal || s.nvs.faults.snap || s.nvs.faults.sets then 2
        else if s.nvs.flight = .none then 0 else 1] ++
      le 2 s.nvs.bitmap ++ [u8 (count 0), u8 (count 1), u8 (count 2), u8 (count 3)])) ∧
    LineShows s 0x10 (le 2 s.dtu.day ++ le 2 s.dtu.minute ++ [u8 s.dtu.second, u8 (flag s.dtu.timeValid)]) ∧
    LineShows s 0x20 ([u8 s.lnk.cursor] ++ le 2 s.lnk.postCounter ++ [u8 s.lnk.backlog.length] ++
      le 2 (s.lnk.backlog.map fun e => 2 ^ e.kind.code).sum) ∧
    LineShows s 0x30 []

/-- The bytes that the host wrote: its part of the order slots, the attention mask, the host records and the settings area. -/
def HostBytesShow (s : State) : Prop :=
  (∀ (k : Fin 8) (i : Fin 12), exchangeByte s (0x40 + 16 * k.val + i.val) = hostByte s (0x40 + 16 * k.val + i.val)) ∧
    ∀ a, (0xC0 ≤ a ∧ a < 0xC2) ∨ (0x100 ≤ a ∧ a < 0x200) ∨ (0x400 ≤ a ∧ a < 0xC00) → exchangeByte s a = hostByte s a

/-- The unassigned addresses read 00h (R165). -/
def UnassignedShow (s : State) : Prop :=
  ∀ a, (0xC2 ≤ a ∧ a < 0x100) ∨ (0x240 ≤ a ∧ a < 0x400) ∨ (0xCC0 ≤ a ∧ a < 0xD00) ∨ (0xEA0 ≤ a ∧ a < 0xF00) ∨
    (0xF80 ≤ a ∧ a < 0x1000) ∨ (0x1240 ≤ a ∧ a < 0x1400) ∨ (0x1600 ≤ a ∧ a < 0x2000) → exchangeByte s a = 0

/-- The answers of the order slots and the echo block (R204). -/
def AnswersShow (s : State) : Prop :=
  (∀ k : Fin 8, exchangeByte s (0x4C + 16 * k.val) = (s.orderSlot k).echo ∧
      exchangeByte s (0x4D + 16 * k.val) = (s.orderSlot k).result ∧
      exchangeByte s (0x4E + 16 * k.val) = u8 (s.orderSlot k).detail ∧
      exchangeByte s (0x4F + 16 * k.val) = u8 ((s.orderSlot k).detail / 256)) ∧
    (∀ n : Fin 32, exchangeByte s (0x200 + n.val) = s.lnk.causeEcho[n]) ∧
    (∀ c : Fin 8, exchangeByte s (0x220 + c.val) = s.lnk.gaugeEcho[c]) ∧
    (∀ n : Fin 4, exchangeByte s (0x228 + n.val) = s.lnk.textEcho[n]) ∧
    ∀ a, 0x22C ≤ a → a < 0x240 → exchangeByte s a = 0

/-- The calibration section (R163), the speed and distance mirror (R23) and the line mirror (R94). -/
def CountersShow (s : State) : Prop :=
  LineShows s 0xC00 (le 2 s.nvs.pulse ++ [u8 (flag s.nvs.locked), u8 (flag (!s.nvs.locked))] ++ le 2 s.nvs.calPtr) ∧
    LineShows s 0xC10 [] ∧
    LineShows s 0xC20 (le 2 s.spd.vPub ++ [u8 s.spd.gateState.code, u8 (flag s.spd.moving), u8 s.spd.hold, 0] ++
      le 2 s.spd.lastN ++ le 4 s.spd.lastTsum ++ le 2 s.spd.rejected) ∧
    LineShows s 0xC30 (le 4 s.spd.odometer ++ le 4 s.spd.tripA ++ le 4 s.spd.tripB ++ le 2 s.spd.remainder) ∧
    LineShows s 0xE80 ([u8 s.tlr.line.code, (s.tlr.lastFrame.map Prod.snd).getD 0] ++ le 2 s.tlr.errors ++
      le 2 s.tlr.mirrorTime) ∧
    LineShows s 0xE90 []

/-- The gauge mirror (R50), its target field as R35 states it. -/
def GaugesShow (s : State) : Prop :=
  ∀ c : Fin 8, ∀ x : Channel, x = s.channel c →
    LineShows s (0xC40 + 16 * c.val) ([u8 x.state.code, u8 (flag x.calibration + 2 * flag x.defaulted), u8 x.mode.code,
        if x.dir = .up then 1 else 0] ++ le 2 x.x ++ le 2 x.demand ++
      le 2 (if x.state = .sweep ∨ x.state = .tracking ∨ x.state = .stale ∨ x.state = .parking then motionTarget s c
        else x.target) ++ le 2 x.pos ++ [u8 x.vel, u8 x.stallCount] ++ le 2 x.aMax)

/-- The cause mirror and the lamp mirror (R79). -/
def CausesAndLampsShow (s : State) : Prop :=
  (∀ n : Fin 53, exchangeByte s (0xD00 + 4 * n.val) = u8 (s.causeOf n).state.code ∧
      exchangeByte s (0xD01 + 4 * n.val) = u8 (s.causeOf n).cls ∧
      exchangeByte s (0xD02 + 4 * n.val) = (s.causeOf n).argument ∧
      exchangeByte s (0xD03 + 4 * n.val) = u8 (flag (s.causeOf n).dropped)) ∧
    (∀ a, 0xDD4 ≤ a → a < 0xE00 → exchangeByte s a = 0) ∧
    (∀ l : Fin 48, ∀ x : Lamp, x = s.ttu.lamps[l] → exchangeByte s (0xE00 + l.val) =
      u8 (flag x.lit + 2 * flag x.output + 4 * x.pattern.code + 16 * flag x.isOpen + 32 * flag x.hold)) ∧
    LineShows s 0xE30 ([u8 s.ttu.blink, u8 (flag s.ttu.lampTest.isSome)] ++ le 2 s.ttu.testLeft ++
      [u8 ((List.finRange 48).countP fun l => s.ttu.lamps[l].isOpen)])

/-- The sounder mirror (R79): an on-period count above 255 has no stated byte (log entry 4). -/
def SounderShows (s : State) : Prop :=
  (∀ rest : List Byte, rest = [u8 (flag s.ttu.silence.isSome),
      if s.psc.power = .standby then 3 else if s.psc.power = .proof then 1 else if s.psc.low then 2 else 0,
      u8 s.ttu.queue.length] →
    (s.ttu.playing = none → LineShows s 0xE40 (List.replicate 6 0 ++ rest)) ∧
      ∀ p, s.ttu.playing = some p → p.onCount ≤ 255 →
        LineShows s 0xE40 ([1, u8 p.request.cause.val, u8 p.request.cls, u8 p.request.pattern, u8 p.onCount,
          u8 (flag p.isOn)] ++ rest)) ∧
    (∀ i : Fin 16, exchangeByte s (0xE50 + i.val) = ((s.ttu.queue[i.val]?).map fun r => u8 r.cause.val).getD 0xFF) ∧
    LineShows s 0xE60 [] ∧ LineShows s 0xE70 []

/-- The driver records (R122) and the activity logs (R115). The source of an absent report is the model's choice (DESIGN
CHOICE: log entry 48). -/
def DriversShow (s : State) : Prop :=
  ∀ i : Fin 2, ∀ d : Driver, d = s.driver i →
    LineShows s (0xF00 + 64 * i.val) ([u8 (flag d.present), u8 (flag d.holderValid)] ++ le 4 d.holder) ∧
      LineShows s (0xF10 + 64 * i.val) ([u8 d.activity.code, u8 d.source.code] ++ le 2 d.sinceDay ++ le 2 d.sinceMinute ++
        match d.report with
        | some (a, source) => [u8 a.code, u8 source.code]
        | none => [0xFF, 0]) ∧
      LineShows s (0xF20 + 64 * i.val) (le 2 d.cd ++ le 2 d.dd ++ le 2 d.wd ++ le 2 d.br ++
        [u8 (flag d.firstPart), u8 (flag d.extended), u8 d.extensions,
          u8 (flag d.flags.contPre + 2 * flag d.flags.contLimit + 4 * flag d.flags.dailyPre +
            8 * flag d.flags.dailyLimit + 16 * flag d.flags.weeklyLimit), u8 (flag d.restored)]) ∧
      LineShows s (0xF30 + 64 * i.val) (le 2 d.remContinuous ++ le 2 d.remDaily ++ le 2 d.remWeekly ++ le 2 d.remBreak ++
        [u8 d.logCount, u8 d.logHead, u8 (flag s.dtu.profileDefaulted)]) ∧
      ∀ k : Fin 32, ∀ e : LogEntry, e = d.log[k] → ∀ j, j < 8 →
        exchangeByte s (0x1000 + 256 * i.val + 8 * k.val + j) =
          ([u8 (e.activity.code + 16 * e.source.code), u8 (flag e.gap + 2 * flag e.conflict)] ++ le 2 e.startDay ++
            le 2 e.startMinute ++ le 2 e.duration).getD j 0

/-- The display mirror (R139): SEG s of a row is bit s mod 8 of its byte s / 8. -/
def DisplayShows (s : State) : Prop :=
  (∀ (com : Fin 4) (seg : Fin 52),
      bit (exchangeByte s (0x1200 + 16 * (com.val / 2) + 7 * (com.val % 2) + seg.val / 8)) (seg.val % 8) = true ↔
        s.sdu.image[com].getLsbD seg.val = true) ∧
    (∀ (com : Fin 4) (i : Fin 4),
      bit (exchangeByte s (0x1206 + 16 * (com.val / 2) + 7 * (com.val % 2))) (4 + i.val) = false) ∧
    (∀ l : Fin 2, exchangeByte s (0x120E + 16 * l.val) = 0 ∧ exchangeByte s (0x120F + 16 * l.val) = u8 s.sdu.count) ∧
    (∀ f : Fin 16, ∀ x : FieldRecord, x = s.sdu.fields[f] → exchangeByte s (0x1220 + f.val) =
      u8 (x.state.code + 8 * flag x.blinking + 16 * x.won)) ∧
    LineShows s 0x1230 ([u8 (flag s.sdu.blinkOn), u8 s.sdu.panel.code, u8 s.sdu.rate] ++ List.replicate 12 0 ++
      [u8 s.sdu.count])

/-- The journal slots (R206). -/
def JournalShows (s : State) : Prop :=
  ∀ j : Fin 32, ∀ x : JournalSlot, x = s.lnk.journal[j] →
    LineShows s (0x1400 + 16 * j.val) ([x.post, hostByte s (0x1401 + 16 * j.val), u8 (x.kind.code + 16 * (x.day / 32)),
      u8 x.fold] ++ le 2 x.sequence ++ le 2 (x.minute + 2048 * (x.day % 32)) ++ x.payload)

/-! ### What commands leave -/

/-- The instant at which a command with time t acts: the time base never goes back (log entry 1). -/
def instant (t : Nat) (s : State) : Nat := max s.now t

/-- A WRITE of these bytes was committed (R169): they stand from address a upward, every other host-owned byte is as it
was, and the DISCARD reason is NONE. -/
def Landed (u s : State) (a : Nat) (data : List Byte) : Prop :=
  (∀ i, i < data.length → hostByte u (a + i) = data.getD i 0) ∧
    (∀ b, b < a ∨ a + data.length ≤ b → hostByte u b = hostByte s b) ∧ u.lnk.discard = .none

/-- A touched byte is protected (R170), for a WRITE of so many data bytes: part-owned, in an order slot in progress, or a
clear mark that the WRITE does not free. -/
def Protected (s : State) (count a : Nat) (b : Byte) : Prop :=
  ownerOf a = .part ∨
    (0x40 ≤ a ∧ a < 0xC0 ∧ ownerOf a = .host ∧ orderStamp s (slotOfAddr a) ≠ (s.orderSlot (slotOfAddr a)).echo) ∨
    (0x1400 ≤ a ∧ a < 0x1600 ∧ ownerOf a = .host ∧
      ¬(count = 1 ∧ b = s.lnk.journal[(Fin.ofNat 32 ((a - 0x1400) / 16) : Fin 32)].post))

/-- A WRITE from address a is open with these data bytes clocked: the first 64 stand in its buffer, and every one is counted
(R169). -/
def WriteOpen (s : State) (a : Nat) (data : List Byte) : Prop :=
  s.lnk.port.csLow = true ∧ s.lnk.port.command = some .write ∧ s.lnk.port.state = .data ∧ s.lnk.port.writeStart = a ∧
    s.lnk.port.writeBuffer = data.take 64 ∧ s.lnk.port.writeCount = min 65535 data.length

/-- A WRITE of these data bytes from address a, whose chip select rose so many clocks after a whole byte, was discarded for the
first of the five tests that it failed in s (R169). -/
def WriteJudged (u s : State) (a : Nat) (data : List Byte) (bits : Fin 8) : Prop :=
  (bits ≠ 0 ∨ data = [] → u.lnk.discard = .ragged) ∧
    (bits = 0 → 64 < data.length → u.lnk.discard = .length) ∧
    (bits = 0 → data ≠ [] → data.length ≤ 64 → s.psc.power = .loading → u.lnk.discard = .notReady) ∧
    (bits = 0 → data ≠ [] → data.length ≤ 64 → s.psc.power ≠ .loading →
      (∃ i, i < data.length ∧ ownerOf ((a + i) % 8192) = .unassigned) → u.lnk.discard = .outside) ∧
    (bits = 0 → data ≠ [] → data.length ≤ 64 → s.psc.power ≠ .loading →
      (∀ i, i < data.length → ownerOf ((a + i) % 8192) ≠ .unassigned) →
      (∃ i, i < data.length ∧ Protected s data.length ((a + i) % 8192) (data.getD i 0)) →
      u.lnk.discard = .protectedByte)

/-- The time, slot and stamp of an order's row. -/
def orderOf : Instr → Option (Nat × Fin 8 × Byte)
  | .acknowledge t k stamp _ | .resetTrip t k stamp _ | .rehome t k stamp _ | .lampTest t k stamp _
  | .setTime t k stamp _ _ _ | .takeSnapshot t k stamp | .saveSettings t k stamp | .calibrate t k stamp _
  | .presetOdometer t k stamp _ | .lockCalibration t k stamp => some (t, k, stamp)
  | _ => none

/-- An order of one of these kinds is in progress in some slot. -/
def InProgress (s : State) (ps : List Progress) : Prop := ∃ k, (s.orderSlot k).progress ∈ ps

/-- The first check that an order of a CAL request fails from check 4 on (R190, R192). -/
def calRefusal (s : State) : Option (Byte × Nat) :=
  if s.nvs.locked then some (0x03, 0)
  else if (List.finRange 8).any fun k => decide ((s.orderSlot k).progress ∈ [Progress.calibrating, .locking]) then some (0x07, 0)
  else if 256 ≤ s.nvs.calPtr then some (0x06, 1)
  else if calBusy s then some (0x07, 0)
  else none

/-- The result and detail of the first check that an order fails, or none (R180, R183–R192). -/
def refusal (s : State) : Instr → Option (Byte × Nat)
  | .acknowledge _ _ _ cause => if 52 < cause.toNat ∧ cause.toNat ≠ 255 then some (0x04, 1) else none
  | .resetTrip _ _ _ trip => if 1 < trip.toNat then some (0x04, 1) else none
  | .rehome _ _ _ mask => if mask = 0 then some (0x04, 1) else if s.psc.power = .standby then some (0x02, 2) else none
  | .lampTest _ _ _ seconds =>
      if seconds = 0 ∨ 10 < seconds.toNat then some (0x04, 1)
      else if s.psc.power = .standby then some (0x02, 2)
      else if s.psc.power ≠ .normal then some (0x02, 3)
      else none
  | .setTime _ _ _ _ minute second =>
      if 1439 < minute.toNat then some (0x04, 2)
      else if 59 < second.toNat then some (0x04, 3)
      else if s.tlr.line = .alive then some (0x02, 4)
      else none
  | .saveSettings _ _ _ =>
      if s.spd.moving then some (0x02, 1)
      else if (List.finRange 8).any fun k => decide ((s.orderSlot k).progress = Progress.saving) then some (0x07, 0)
      else if setsBusy s then some (0x07, 0)
      else none
  | .calibrate _ _ _ pulse =>
      if pulse.toNat < 2000 ∨ 60000 < pulse.toNat then some (0x04, 1)
      else if s.spd.moving then some (0x02, 1)
      else calRefusal s
  | .presetOdometer _ _ _ total =>
      if total.toNat < s.spd.odometer ∨ 999999999 < total.toNat then some (0x04, 1)
      else if s.spd.moving then some (0x02, 1)
      else if s.nvs.locked then some (0x03, 0)
      else none
  | .lockCalibration _ _ _ => calRefusal s
  | _ => none

/-! ### Causes and lamps -/

/-- Where an acknowledge in RUN takes a cause (R56). -/
def ackedState (c : Cause) : CauseState :=
  match c.state with
  | .active => if c.cls = 0 then .active else .acked
  | .held => .clear
  | st => st

/-- Where a clear in RUN takes cause n (R55). -/
def clearedState (s : State) (n : Fin 53) : CauseState :=
  match (s.causeOf n).state with
  | .active => if causeLatched s n then .held else .clear
  | .acked => .clear
  | st => st

/-- Where an assertion that goes from one value to another in RUN takes cause n: it raises the cause as it becomes set
(R54), clears it as it becomes clear (R55), and sends nothing otherwise. -/
def assertedState (s : State) (n : Fin 53) (was isNow : Bool) : CauseState :=
  if was = isNow then (s.causeOf n).state
  else if isNow then
    match (s.causeOf n).state with
    | .clear | .held => .active
    | st => st
  else clearedState s n

/-- Cause n belongs to the lighting set of lamp l (R64). -/
def Lights (s : State) (n : Fin 53) (l : Fin 48) : Prop :=
  (s.causeOf n).state ≠ .clear ∧
    (causeLamp s n = some l ∨
      ∃ k : Fin 48, causeLamp s n = some k ∧ s.ttu.lamps[k].isOpen = true ∧ lampFallback s k = some l)

/-- Cause n is the most urgent of lamp l's lighting set, the lowest-numbered of equals (R64). -/
def Leads (s : State) (n : Fin 53) (l : Fin 48) : Prop :=
  Lights s n l ∧ ∀ m : Fin 53, Lights s m l →
    (s.causeOf n).cls < (s.causeOf m).cls ∨ ((s.causeOf n).cls = (s.causeOf m).cls ∧ n.val ≤ m.val)

/-- Lamp l is lit steady whatever its lighting set (R68, R69). -/
def Steady (s : State) (l : Fin 48) : Prop :=
  s.ttu.lampTest.isSome = true ∨ s.ttu.lamps[l].hold = true ∨ (s.psc.power = .proof ∧ lampProof s l = true)

/-- The phases in which a pattern's output is on (R63). -/
def onPhases : LampPattern → List Nat
  | .steady => [0, 1, 2, 3, 4, 5, 6, 7]
  | .slow => [0, 1, 2, 3]
  | .fast => [0, 2, 4, 6]
  | .flash => [0]

/-- Lamp l is as R63, R64, R68 and R69 call for in RUN. -/
def LampFollows (s : State) (l : Fin 48) : Prop :=
  (Steady s l → s.ttu.lamps[l].lit = true ∧ s.ttu.lamps[l].pattern = .steady) ∧
    (¬Steady s l → (s.ttu.lamps[l].lit = true ↔ ∃ n, Lights s n l) ∧
      ∀ n, Leads s n l → s.ttu.lamps[l].pattern = causePattern s n) ∧
    (s.ttu.lamps[l].output = true ↔
      s.ttu.lamps[l].lit = true ∧ s.ttu.blink ∈ onPhases s.ttu.lamps[l].pattern)

/-! ### Gauges -/

/-- The distance D between a needle and its motion target (R36). -/
def distance (s : State) (c : Fin 8) : Nat :=
  max ((s.channel c).pos - motionTarget s c) (motionTarget s c - (s.channel c).pos)

/-- w is the velocity that a step event chooses (R36, R37): 0 at the target; toward it the largest of v - 1, v and v + 1 from
which the needle can still stop, or v - 1 when there is none; away from it v - 1, or 0 for a move that the clamp of R37 shortens
(DESIGN CHOICE: log entry 43). -/
def Chooses (s : State) (c : Fin 8) (w : Nat) : Prop :=
  ∀ x : Channel, x = s.channel c →
    (x.pos = motionTarget s c → w = 0) ∧
    (x.pos ≠ motionTarget s c → (x.vel = 0 ∨ (x.dir = .up ↔ x.pos < motionTarget s c)) →
      let fits := [x.vel - 1, x.vel, x.vel + 1].filter fun y => y ≤ vMax s c ∧ y * (y + 1) / 2 ≤ distance s c
      (fits = [] → w = x.vel - 1) ∧ (fits ≠ [] → w ∈ fits ∧ ∀ y ∈ fits, y ≤ w)) ∧
    (x.pos ≠ motionTarget s c → x.vel ≠ 0 → ¬(x.dir = .up ↔ x.pos < motionTarget s c) →
      w = if (x.dir = .up ∧ x.aMax < x.pos + (x.vel - 1)) ∨ (x.dir = .down ∧ x.pos < x.vel - 1) then 0 else x.vel - 1)

/-- A move from one position to another lands on or crosses a full-step boundary, a multiple of 12 (R41). -/
def CrossesBoundary (old new : Nat) : Prop :=
  ∃ m, m ≤ max old new ∧ ((old < 12 * m ∧ 12 * m ≤ new) ∨ (new ≤ 12 * m ∧ 12 * m < old))

/-- A threshold evaluation in a warning mode took an assertion from one value to another (R44). -/
def WarningDecided (mode lo hi h x : Nat) (was isNow : Bool) : Prop :=
  (mode = 0 → isNow = false) ∧
    (mode = 1 → (x < lo → isNow = true) ∧ (lo + h ≤ x → isNow = false) ∧ (lo ≤ x → x < lo + h → isNow = was)) ∧
    (mode = 2 → (hi < x → isNow = true) ∧ (x + h ≤ hi → isNow = false) ∧ (x ≤ hi → hi < x + h → isNow = was)) ∧
    (mode = 3 → (x < lo ∨ hi < x → isNow = true) ∧ (lo + h ≤ x → x + h ≤ hi → isNow = false) ∧
      (lo ≤ x → x ≤ hi → (x < lo + h ∨ hi < x + h) → isNow = was))

/-- Filter events, one after another, each of which set the demand angle of channel c to a. -/
inductive FilterRun (c : Fin 8) (a : Nat) : Nat → State → State → Prop
  | none (s : State) : FilterRun c a 0 s s
  | more {k : Nat} {s v u : State} (t : Nat) (h : FilterRun c a k s v) (e : exec (.filterEvent t) v = .next u)
      (d : (u.channel c).demand = a) : FilterRun c a (k + 1) s u

/-! ### Driver time -/

/-- Both slots' activities in force and sources, and the crew conflict, are what R111 makes of the reports. -/
def Resolved (s : State) : Prop :=
  let b0 := (s.driver 0).report.getD (.unknown, .none)
  let b1 := (s.driver 1).report.getD (.unknown, .none)
  ((s.driver 0).activity, (s.driver 0).source) =
      (if s.dtu.moving = true ∧ b0.1 ≠ .drive ∧ b1.1 ≠ .drive ∧ (s.driver 0).present = true ∧
          (profile s).implied = true then (.drive, .implied) else b0) ∧
    ((s.driver 1).activity, (s.driver 1).source) =
      (if b0.1 = .drive ∧ b1.1 = .drive then (.work, b1.2) else b1) ∧
    (s.dtu.crewConflict = true ↔ b0.1 = .drive ∧ b1.1 = .drive)

/-- The activity of slot i's base: its report's, or UNKNOWN (R111). -/
def baseActivity (s : State) (i : Fin 2) : Activity := ((s.driver i).report.getD (.unknown, .none)).1

/-- Crew conflict goes from clear to set (R112). -/
def CrewConflictBegins (u s : State) : Prop := s.dtu.crewConflict = false ∧ u.dtu.crewConflict = true

/-- A motion conflict stands that no record of this moving period has told (R112). -/
def MotionConflictBegins (u : State) (posted : Bool) : Prop :=
  posted = false ∧ u.dtu.moving = true ∧ u.dtu.line = .alive ∧ baseActivity u 0 ≠ .drive ∧ baseActivity u 1 ≠ .drive

/-- A MOTION_CONFLICT record with this reason was posted, and slot i's newest log entry bears the CONFLICT flag (R112). -/
def ConflictPosted (u s : State) (reason : Nat) (i : Fin 2) : Prop :=
  Posted u s .motionConflict
      [u8 reason, u8 (baseActivity u 0).code, u8 (baseActivity u 1).code, u8 (flag u.dtu.moving), u8 u.dtu.line.code] ∧
    ((u.driver i).logCount ≠ 0 →
      ((u.driver i).log[(Fin.ofNat 32 (u.driver i).logHead : Fin 32)]).conflict = true)

/-- What R112 makes of one run of the resolution rule, with motion conflict posted as it stood at the run. -/
def ConflictsRecorded (u s : State) (posted : Bool) : Prop :=
  (CrewConflictBegins u s → ConflictPosted u s 0 1) ∧
    (MotionConflictBegins u posted → ConflictPosted u s 1 0) ∧
    (¬CrewConflictBegins u s → ¬MotionConflictBegins u posted → NotPosted u s .motionConflict) ∧
    (u.dtu.motionPosted = true ↔ posted = true ∨ MotionConflictBegins u posted)

/-- A slot's counters, break state, limits and holder are as they were. -/
def AccountKept (u s : State) (i : Fin 2) : Prop :=
  (u.driver i).cd = (s.driver i).cd ∧ (u.driver i).dd = (s.driver i).dd ∧ (u.driver i).wd = (s.driver i).wd ∧
    (u.driver i).br = (s.driver i).br ∧ (u.driver i).firstPart = (s.driver i).firstPart ∧
    (u.driver i).extended = (s.driver i).extended ∧ (u.driver i).extensions = (s.driver i).extensions ∧
    (u.driver i).flags = (s.driver i).flags ∧ (u.driver i).restored = (s.driver i).restored ∧
    (u.driver i).holder = (s.driver i).holder

/-- Slot i's activity or source changed, and the change dates from a day and minute (R110, R115): its since fields, and one new
entry at the head of its log. -/
def ChangeLogged (u s : State) (i : Fin 2) (day minute : Nat) : Prop :=
  (u.driver i).sinceDay = day ∧ (u.driver i).sinceMinute = minute ∧
    (u.driver i).logCount = min 32 ((s.driver i).logCount + 1) ∧
    (u.driver i).logHead = (if (s.driver i).logCount = 0 then 0 else ((s.driver i).logHead + 1) % 32) ∧
    (u.driver i).log[(Fin.ofNat 32 (u.driver i).logHead : Fin 32)] =
      { activity := (u.driver i).activity, source := (u.driver i).source, startDay := day, startMinute := minute
        duration := 0, gap := false
        conflict := ((u.driver i).log[(Fin.ofNat 32 (u.driver i).logHead : Fin 32)]).conflict }

/-- Slot i's activity or source differs. -/
def SlotChanged (u s : State) (i : Fin 2) : Prop :=
  ((u.driver i).activity, (u.driver i).source) ≠ ((s.driver i).activity, (s.driver i).source)

/-- The payload of slot i's ACTIVITY record (R206), dated from a day and minute. -/
def activityRecord (u s : State) (i : Fin 2) (day minute : Nat) : List Byte :=
  [u8 (i.val + 1), u8 ((u.driver i).activity.code + 16 * (u.driver i).source.code),
    u8 ((s.driver i).activity.code + 16 * (s.driver i).source.code)] ++ le 2 day ++ le 2 minute

/-- The payload of the CARD record of a PRESENCE frame that changes slot i's card state: 2 PRESENCE_IN, 3 PRESENCE_OUT (R109,
R206). -/
def presenceRecord (s : State) (flags : Byte) (i : Fin 2) : List Byte :=
  [u8 (i.val + 1), if bit flags i.val then 2 else 3] ++ le 4 (s.driver i).holder ++ le 2 (s.driver i).dd

/-- The clock was set at this instant, from a frame (source 0) or by an order (source 1) (R98). -/
def ClockSet (u s : State) (now day minute second source : Nat) : Prop :=
  u.dtu.day = day ∧ u.dtu.minute = minute ∧ u.dtu.second = second ∧ u.dtu.secondStart = now ∧
    u.dtu.timeValid = true ∧
    (s.dtu.timeValid = false → u.dtu.lastDay = day ∧ u.dtu.lastMinute = minute) ∧
    (s.dtu.timeValid = true → u.dtu.lastDay = s.dtu.lastDay ∧ u.dtu.lastMinute = s.dtu.lastMinute) ∧
    (if day * 1440 + minute > s.dtu.day * 1440 + s.dtu.minute + 1 ∨
        s.dtu.day * 1440 + s.dtu.minute > day * 1440 + minute + 1 ∨ s.dtu.timeValid = false then
      (∀ i, u.driver i = (s.driver i).logNewest fun e => { e with gap := true }) ∧
        Recorded u s .timeSet
          (le 4 (s.dtu.day * 1440 + s.dtu.minute + 2 ^ 28 * source + 2 ^ 31 * flag s.dtu.timeValid) ++
            le 4 (day * 1440 + minute + 2 ^ 28 * source))
    else u.dtu.drivers = s.dtu.drivers ∧ Part.journal.same s u)

/-- The time and the type of a frame's row (R84). -/
def frameOf : Instr → Option (Nat × Byte)
  | .timeFrame t .. => some (t, 0x10)
  | .activityFrame t .. => some (t, 0x11)
  | .cardFrame t _ => some (t, 0x12)
  | .presenceFrame t .. => some (t, 0x13)
  | _ => none

/-- The daily limit that applies to slot i (R103). -/
def dailyLimit (s : State) (i : Fin 2) : Nat :=
  if (s.driver i).extended then (profile s).extendedLimit else (profile s).dailyLimit

/-- The remaining values of slot i are what R103 makes of its counters. -/
def RemainingRight (s : State) (i : Fin 2) : Prop :=
  (s.driver i).remContinuous = (profile s).contLimit - (s.driver i).cd ∧
    (s.driver i).remDaily = dailyLimit s i - (s.driver i).dd ∧
    (s.driver i).remWeekly = (profile s).weeklyLimit - (s.driver i).wd ∧
    ((s.driver i).cd = 0 → (s.driver i).remBreak = 0) ∧
    ((s.driver i).cd ≠ 0 → (s.driver i).remBreak =
      (if (s.driver i).firstPart then (profile s).splitSecond else (profile s).fullBreak) - (s.driver i).br)

/-- The five warning flags of slot i stand as R104 states. -/
def WarningsRight (s : State) (i : Fin 2) : Prop :=
  ((s.driver i).flags.contPre = true ↔ (profile s).contLimit ≤ (s.driver i).cd + (profile s).lead) ∧
    ((s.driver i).flags.contLimit = true ↔ (profile s).contLimit ≤ (s.driver i).cd) ∧
    ((s.driver i).flags.dailyPre = true ↔ dailyLimit s i ≤ (s.driver i).dd + (profile s).lead) ∧
    ((s.driver i).flags.dailyLimit = true ↔ dailyLimit s i ≤ (s.driver i).dd) ∧
    ((s.driver i).flags.weeklyLimit = true ↔ (profile s).weeklyLimit ≤ (s.driver i).wd)

/-- The payloads of the DRIVE_LIMIT records that an evaluation of slot i calls for (R104, R105, R206): one for an extension
taken, and one for each limit flag that went from clear to set. -/
def limitRecords (u s : State) (i : Fin 2) : List (List Byte) :=
  let record := fun (event counter limit : Nat) =>
    [u8 (i.val + 1), u8 event] ++ le 2 counter ++ le 2 limit ++ [u8 (u.driver i).extensions]
  (if (s.driver i).extended = false ∧ (u.driver i).extended = true then
      [record 3 (u.driver i).dd (profile s).extendedLimit] else []) ++
    (if (s.driver i).flags.contLimit = false ∧ (u.driver i).flags.contLimit = true then
      [record 0 (u.driver i).cd (profile s).contLimit] else []) ++
    (if (s.driver i).flags.dailyLimit = false ∧ (u.driver i).flags.dailyLimit = true then
      [record 1 (u.driver i).dd (dailyLimit u i)] else []) ++
    (if (s.driver i).flags.weeklyLimit = false ∧ (u.driver i).flags.weeklyLimit = true then
      [record 2 (u.driver i).wd (profile s).weeklyLimit] else [])

/-- Slot i's extension test passes for this daily drive, limit and use (R105). -/
def takesExtension (s : State) (dd extensions : Nat) (extended : Bool) : Bool :=
  !extended && decide ((profile s).dailyLimit ≤ dd) && decide (extensions < (profile s).extensions)

/-- Assertions 45 to 48 stand as R106 states: as the flags of the one driving slot, and clear while no slot drives. -/
def DrivingRight (s : State) : Prop :=
  (∀ i : Fin 2, (s.driver i).activity = .drive → (∀ j : Fin 2, (s.driver j).activity = .drive → j = i) →
    s.dtu.assert45 = (s.driver i).flags.contPre ∧ s.dtu.assert46 = (s.driver i).flags.contLimit ∧
      s.dtu.assert47 = (s.driver i).flags.dailyPre ∧ s.dtu.assert48 = (s.driver i).flags.dailyLimit) ∧
    ((∀ i : Fin 2, (s.driver i).activity ≠ .drive) →
      s.dtu.assert45 = false ∧ s.dtu.assert46 = false ∧ s.dtu.assert47 = false ∧ s.dtu.assert48 = false)

/-- The implied assertion stands as R114 states. -/
def ImpliedRight (s : State) : Prop := s.dtu.assert49 = true ↔ ∃ i : Fin 2, (s.driver i).source = .implied

/-- Causes 45 to 48 followed their assertions (R106). -/
def DrivingCausesFollow (u s : State) : Prop :=
  (u.causeOf 45).state = assertedState s 45 s.dtu.assert45 u.dtu.assert45 ∧
    (u.causeOf 46).state = assertedState s 46 s.dtu.assert46 u.dtu.assert46 ∧
    (u.causeOf 47).state = assertedState s 47 s.dtu.assert47 u.dtu.assert47 ∧
    (u.causeOf 48).state = assertedState s 48 s.dtu.assert48 u.dtu.assert48

/-- Cause 49 followed the implied assertion (R114). -/
def ImpliedCauseFollows (u s : State) : Prop :=
  (u.causeOf 49).state = assertedState s 49 s.dtu.assert49 u.dtu.assert49

/-! ### The panel -/

/-- A position is lit in an image. -/
def LitAt (img : Image) (com : Fin 4) (seg : Fin 52) : Prop := img[com].getLsbD seg.val = true

/-- The font as R130 lists it: each code with the segments that it lights, a to g as 0 to 6. -/
def fontTable : List (Nat × List Nat) :=
  [(0x20, []), (0x2D, [6]), (0x30, [0, 1, 2, 3, 4, 5]), (0x31, [1, 2]), (0x32, [0, 1, 3, 4, 6]), (0x33, [0, 1, 2, 3, 6]),
    (0x34, [1, 2, 5, 6]), (0x35, [0, 2, 3, 5, 6]), (0x36, [0, 2, 3, 4, 5, 6]), (0x37, [0, 1, 2]),
    (0x38, [0, 1, 2, 3, 4, 5, 6]), (0x39, [0, 1, 2, 3, 5, 6]), (0x41, [0, 1, 2, 4, 5, 6]), (0x43, [0, 3, 4, 5]),
    (0x45, [0, 3, 4, 5, 6]), (0x46, [0, 4, 5, 6]), (0x48, [1, 2, 4, 5, 6]), (0x49, [4, 5]), (0x4A, [1, 2, 3, 4]),
    (0x4C, [3, 4, 5]), (0x50, [0, 1, 4, 5, 6]), (0x53, [0, 2, 3, 5, 6]), (0x55, [1, 2, 3, 4, 5]),
    (0x62, [2, 3, 4, 5, 6]), (0x63, [3, 4, 6]), (0x64, [1, 2, 3, 4, 6]), (0x68, [2, 4, 5, 6]), (0x6E, [2, 4, 6]),
    (0x6F, [2, 3, 4, 6]), (0x72, [4, 6]), (0x74, [3, 4, 5, 6]), (0x75, [2, 3, 4]), (0x79, [1, 2, 3, 5, 6])]

/-- What a DECIMAL field draws r cells from its right for the scaled value v (R128): a digit of v or of its padding to one
more digit than the decimal places, with the decimal point in the cell that the places name, or what stands to the left of
the digits. -/
def decimalGlyph (x : FieldSettings) (v r : Nat) : Glyph :=
  (if r ≤ x.places ∨ 10 ^ r ≤ v then font (0x30 + v / 10 ^ r % 10) else if x.blanking then 0 else font 0x30) |||
    (if x.places ≠ 0 ∧ r = x.places then 0x80 else 0)

/-- What an H:MM field draws r cells from its right for v scaled minutes (R129). -/
def hmmGlyph (x : FieldSettings) (v r : Nat) : Glyph :=
  if r = 0 then font (0x30 + v % 60 % 10)
  else if r = 1 then font (0x30 + v % 60 / 10)
  else if r = 2 ∨ 10 ^ (r - 2) ≤ v / 60 then font (0x30 + v / 60 / 10 ^ (r - 2) % 10)
  else if x.blanking then 0
  else font 0x30

/-- Driver record i is the one read without a slot (R127): the driving slot's, or slot 1's when no slot is driving. -/
def ShownSlot (s : State) (i : Fin 2) : Prop :=
  if ∃ j : Fin 2, (s.driver j).activity = .drive then
    (s.driver i).activity = .drive ∧ ∀ j : Fin 2, (s.driver j).activity = .drive → j = i
  else i = 0

/-- The values of the numeric sources, by their codes 1 to 11 (R126, R127), and no value elsewhere. -/
def SourcesRight (s : State) : Prop :=
  (∀ a, sourceValue s 1 a = some s.spd.odometer ∧ sourceValue s 2 a = some s.spd.tripA ∧
      sourceValue s 3 a = some s.spd.tripB ∧ sourceValue s 4 a = some s.spd.vPub) ∧
    (∀ a, s.dtu.timeValid = false → sourceValue s 5 a = none) ∧
    (∀ a, s.dtu.timeValid = true → ∀ offset : Int,
      ((hostByte s 0x8BF).toNat + 256 * (hostByte s 0x8C7).toNat : Nat) = offset % 65536 → -720 ≤ offset → offset ≤ 840 →
      sourceValue s 5 a = some ((s.dtu.minute + offset) % 1440).toNat) ∧
    (∀ a, s.dtu.timeValid = true → 840 < (hostByte s 0x8BF).toNat + 256 * (hostByte s 0x8C7).toNat →
      (hostByte s 0x8BF).toNat + 256 * (hostByte s 0x8C7).toNat < 65536 - 720 →
      sourceValue s 5 a = some (s.dtu.minute % 1440)) ∧
    (∀ i a, ShownSlot s i → sourceValue s 6 a = some (s.driver i).remContinuous ∧
      sourceValue s 7 a = some (s.driver i).remDaily ∧ sourceValue s 8 a = some (s.driver i).remWeekly ∧
      sourceValue s 9 a = some (s.driver i).remBreak ∧ activityDriver s 0 = s.driver i) ∧
    (activityDriver s 1 = s.driver 0 ∧ activityDriver s 2 = s.driver 1) ∧
    (∀ a, sourceValue s 10 a = some (activityDriver s a).activity.code) ∧
    (∀ c : Fin 8, sourceValue s 11 c.val = if gaugeSource s c = .off then none else some (s.channel c).x) ∧
    ∀ n a, 11 < n → sourceValue s n a = none

/-- What each icon binding lights (R133, R209), with whether the icon is blink-maskable (R134). -/
def IconsRight (s : State) : Prop :=
  ∀ lit : Nat → Bool × Bool, (∀ b, lit b = iconLit s (composeFields s) b) →
    lit 0 = (false, false) ∧ (∀ l : Fin 48, lit (1 + l.val) = (s.ttu.lamps[l].lit, false)) ∧
    (∀ (i : Fin 2) (a : Activity), lit (0x31 + 5 * i.val + a.code) = (decide ((s.driver i).activity = a), false)) ∧
    (∀ i : Fin 2, lit (0x3B + i.val) = ((s.driver i).present, false)) ∧
    (∀ f : Fin 16, lit (0x3D + f.val) = ((composeFields s)[f].colon, (composeFields s)[f].blinking) ∧
      ((composeFields s)[f].colon = true ↔
        (fieldSettings s f.val).format = some .hmm ∧ (composeFields s)[f].state = .shown)) ∧
    lit 0x4D = (s.dtu.timeValid, false) ∧ ∀ b, 0x4D < b → lit b = (false, false)

/-- A lit segment of a digit cell, or a lit icon, is placed on a position (R125, R132, R133), blink-maskable or steady (R134). -/
def StrokeAt (s : State) (com : Fin 4) (seg : Fin 52) (maskable : Bool) : Prop :=
  (∃ k : Fin 12, ∃ f : Fin 16, cellWinner (composeFields s) k.val = some f ∧
      (composeFields s)[f].blinking = maskable ∧
      ∃ j : Fin 8, bit ((composeFields s)[f].glyphs.getD (k.val - (composeFields s)[f].first) 0) j.val = true ∧
        hostByte s (0x810 + 8 * k.val + j.val) = u8 (seg.val + 64 * com.val)) ∨
    ∃ i : Fin 32, hostByte s (0x870 + 2 * i.val) = u8 (seg.val + 64 * com.val) ∧
      iconLit s (composeFields s) (hostByte s (0x871 + 2 * i.val)).toNat = (true, maskable)

/-! ### The store -/

/-- Section header k of an image stands at this offset (R162): after the image header and the sections before it. -/
def headerAt (bs : List Byte) : Nat → Nat
  | 0 => 8
  | k + 1 => headerAt bs k + 4 + word16 bs (headerAt bs k + 2)

/-- The walk over a valid image meets section header k, of section id, and no header of that id before it: neither it nor an
earlier one runs past the image length (R162). -/
def FirstCopy (bs : List Byte) (k id : Nat) : Prop :=
  k < word16 bs 4 ∧ (∀ j, j ≤ k → headerAt bs (j + 1) ≤ word16 bs 2) ∧ (bs.getD (headerAt bs k) 0).toNat = id ∧
    ∀ j, j < k → (bs.getD (headerAt bs j) 0).toNat ≠ id

/-- Section id of the settings area holds its default contents, and its bit in the section bitmap is clear (R162). -/
def SectionDefaulted (u : State) (id : Fin 15) : Prop :=
  u.nvs.bitmap.testBit id.val = false ∧
    ∀ i, i < sectionSize (id.val + 1) →
      hostByte u (sectionAddr (id.val + 1) + i) = (defaultSection (id.val + 1)).getD i 0

/-- The sections of the settings area, the section bitmap and the load control table are what a valid image gives (R162). -/
def ImageLoaded (u : State) (bs : List Byte) : Prop :=
  ∀ id : Fin 15,
    (∀ k, FirstCopy bs k (id.val + 1) →
      u.nvs.loadControl[id] = bs.getD (headerAt bs k + 1) 0 ∧
      (if bs.getD (headerAt bs k + 1) 0 = 1 ∧ word16 bs (headerAt bs k + 2) = sectionSize (id.val + 1) then
        u.nvs.bitmap.testBit id.val = true ∧
          ∀ i, i < sectionSize (id.val + 1) →
            hostByte u (sectionAddr (id.val + 1) + i) = bs.getD (headerAt bs k + 4 + i) 0
      else SectionDefaulted u id)) ∧
    ((∀ k, ¬FirstCopy bs k (id.val + 1)) → u.nvs.loadControl[id] = 1 ∧ SectionDefaulted u id)

/-- Slot i's record is what a snapshot's block holds (R119, R208): the counters clamped as at an insert, an IMPLIED activity
UNKNOWN with no source, the report of a TACHO or PRESENCE source, RESTORED set and the log empty. -/
def Restored (u : State) (i : Fin 2) (block : List Byte) : Prop :=
  ((u.driver i).present = true ↔ block.getD 0 0 = 1) ∧ ((u.driver i).holderValid = true ↔ block.getD 1 0 = 1) ∧
    (u.driver i).holder = word32 block 2 ∧ (u.driver i).sinceDay = word16 block 8 ∧
    (u.driver i).sinceMinute = word16 block 10 ∧ (u.driver i).wd = word16 block 16 ∧
    (u.driver i).dd = min (word16 block 14) (word16 block 16) ∧
    (u.driver i).cd = min (word16 block 12) (min (word16 block 14) (word16 block 16)) ∧
    (u.driver i).br = word16 block 18 ∧ ((u.driver i).firstPart = true ↔ block.getD 20 0 = 1) ∧
    ((u.driver i).extended = true ↔ block.getD 21 0 = 1) ∧ (u.driver i).extensions = (block.getD 22 0).toNat ∧
    (u.driver i).restored = true ∧ (u.driver i).logCount = 0 ∧
    (block.getD 7 0 = 3 →
      (u.driver i).activity = .unknown ∧ (u.driver i).source = .none ∧ (u.driver i).report = none) ∧
    (block.getD 7 0 = 1 ∨ block.getD 7 0 = 2 →
      (u.driver i).activity = Activity.ofCode (block.getD 6 0).toNat ∧
      (u.driver i).source = Source.ofCode (block.getD 7 0).toNat ∧
      (u.driver i).report = some ((u.driver i).activity, (u.driver i).source)) ∧
    (block.getD 7 0 = 0 → (u.driver i).activity = Activity.ofCode (block.getD 6 0).toNat ∧
      (u.driver i).source = .none ∧ (u.driver i).report = none)

/-- No work waits in NVS: no request and no erase-due sector (R155). -/
def StoreIdle (s : State) : Prop :=
  s.nvs.odo = none ∧ s.nvs.cal = none ∧ s.nvs.snap = none ∧ s.nvs.sets = none ∧ ∀ sec : Fin 14, s.nvs.due[sec] = false

/-- p is the first slot that is blank from `start` on in a ring of n slots (R160, R161). -/
def FirstBlankFrom (blank : Nat → Bool) (n start p : Nat) : Prop :=
  ∃ k, k < n ∧ p = (start + k) % n ∧ blank p = true ∧ ∀ j, j < k → blank ((start + j) % n) = false

/-- Slot i holds the one valid odometer record of the highest total (R160). -/
def OdoWins (s : State) (i : Nat) (bs : List Byte) : Prop :=
  storedRecord s (odoAddr i) 8 = some bs ∧ validOdo bs = true ∧
    ∀ q, q < 4096 → q ≠ i → ∀ cs, storedRecord s (odoAddr q) 8 = some cs → validOdo cs = true → word32 cs 0 < word32 bs 0

/-- Record j is the valid snapshot of the highest sequence (R161). -/
def SnapWins (s : State) (j : Nat) (bs : List Byte) : Prop :=
  storedRecord s (snapAddr j) 256 = some bs ∧ validSnap bs = true ∧
    ∀ q, q < 64 → q ≠ j → ∀ cs, storedRecord s (snapAddr q) 256 = some cs → validSnap cs = true → word32 cs 0 < word32 bs 0

/-- The erase-due marks of a ring that LOADING leaves (R146, R160, R161): the sector after the pointer's where that one is not
blank, and the pointer's own where the ring holds no blank slot. -/
def DueRight (u s : State) (sec pointerSector : Nat) (noBlank : Prop) : Prop :=
  isDue u sec = true ↔
    (sec = nextSector pointerSector ∧ Memory.blank s.nvs.array (4096 * sec) 4096 = false) ∨ (sec = pointerSector ∧ noBlank)

/-- The calibration slots noted as cut off are those of before, and the slot of a CAL program p that was cut off now with some
of its words programmed and not all (R159). -/
def CutNoted (u s : State) (now : Nat) (p : Prog) : Prop :=
  ∀ r, r ∈ u.nvs.calCut ↔ r ∈ s.nvs.calCut ∨
    (p.kind = .cal ∧ r = p.slot ∧ 60 ≤ now - p.startedAt ∧ 4 * ((now - p.startedAt) / 60) < p.bytes.length)

/-- The bytes of a record stand in the array from address a upward, and every other byte is as it was. -/
def Programmed (u s : State) (a : Nat) (bytes : List Byte) : Prop :=
  (∀ i, i < bytes.length → arrayByte u (a + i) = bytes.getD i 0xFF) ∧
    ∀ b, b < a ∨ a + bytes.length ≤ b → arrayByte u b = arrayByte s b

/-- Every byte from a upward for a length reads FFh, and every other byte is as it was. -/
def Blanked (u s : State) (a length : Nat) : Prop :=
  (∀ i, i < length → arrayByte u (a + i) = 0xFF) ∧
    ∀ b, b < a ∨ a + length ≤ b → arrayByte u b = arrayByte s b

/-- Every order in one of these stages completes with a result and a detail (R181). -/
def Completes (u s : State) (ps : List Progress) (result : Byte) (detail : Nat) : Prop :=
  ∀ k : Fin 8, (s.orderSlot k).progress ∈ ps → Answered u k (orderStamp s k) result detail

/-- The store-fault assertion stands as the fault set has it, and in RUN cause 50 followed it (R157). -/
def StoreFaultFollows (u s : State) : Prop :=
  u.nvs.storeFault = u.nvs.faults.any ∧
    (inRun s = true → (u.causeOf 50).state = assertedState s 50 s.nvs.storeFault u.nvs.storeFault)

/-- A program of a kind has run its time over a blank slot, with an erase suspended under it, in a store that may start
operations (R155, R156). -/
def ProgramRanOver (s : State) (t : Nat) (kind : Kind) (e : EraseOp) (p : Prog) : Prop :=
  s.nvs.flight = .suspended e p ∧ p.kind = kind ∧ p.endsAt ≤ instant t s ∧ mayStart s = true ∧
    ∀ i, i < p.bytes.length → arrayByte s (p.addr + i) = 0xFF

/-- A program of a kind has run its time, alone in NVS, over a slot that was blank (R141, R155). -/
def ProgramRan (s : State) (t : Nat) (kind : Kind) (p : Prog) : Prop :=
  s.nvs.flight = .program p ∧ p.kind = kind ∧ p.endsAt ≤ instant t s ∧
    ∀ i, i < p.bytes.length → arrayByte s (p.addr + i) = 0xFF

/-! ### Edges (R15) -/

/-- A transition of the SPEED input at instant t is an accepted edge (R4, R5). -/
def Accepted (t : Nat) (rising : Bool) (s : State) : Prop :=
  Awake s ∧ inRun s = true ∧ edgeQualifies s rising = true ∧ gapFails (tick t s) = false

/-- k accepted edges, one after another. -/
inductive EdgeRun : Nat → State → State → Prop
  | none (s : State) : EdgeRun 0 s s
  | more {k : Nat} {s a u : State} (t : Nat) (rising : Bool) (h : EdgeRun k s a) (ok : Accepted t rising a)
      (e : exec (.speedEdge t rising) a = .next u) : EdgeRun (k + 1) s u

/-! ### Invariants -/

/-- R172–R174: the cursor and the post counter lie in their ranges, the backlog holds at most one entry per kind, and none
while the cursor slot is free. -/
def BacklogLaw (s : State) : Prop :=
  s.lnk.cursor < 32 ∧ s.lnk.postCounter < 65536 ∧ (s.lnk.backlog.map BacklogEntry.kind).Nodup ∧
    (s.lnk.backlog ≠ [] → slotFilled s (cursorSlot s) = true)

/-- The chime requests, waiting and playing. -/
def requests (s : State) : List Request := s.ttu.queue ++ (s.ttu.playing.map Playing.request).toList

/-- R72: at most 16 wait, at most one request stands per cause, and each belongs to a cause in ACTIVE. -/
def ChimeLaw (s : State) : Prop :=
  s.ttu.queue.length ≤ 16 ∧ ((requests s).map Request.cause).Nodup ∧
    ∀ r ∈ requests s, (s.causeOf r.cause).state = .active

/-- A CAL program is in flight. -/
def calInFlight (s : State) : Bool := (programOf s.nvs.flight).any fun p => p.kind == .cal

/-- R148: at most one CAL request stands, pending or in flight, and none while the lock is LOCKED or in LOADING. -/
def CalibrationLaw (s : State) : Prop :=
  (s.nvs.cal.isSome = true → calInFlight s = false) ∧
    (s.nvs.locked = true ∨ inLoading s = true → s.nvs.cal = none ∧ calInFlight s = false)

/-- R155: a store that may start an operation and has none in flight has no work that waits. -/
def StoreLaw (s : State) : Prop := mayStart s = true → s.nvs.flight = .none → StoreIdle s

/-- R101: continuous ≤ daily ≤ weekly drive in every driver record. -/
def DriveLaw (s : State) : Prop := ∀ i, (s.driver i).cd ≤ (s.driver i).dd ∧ (s.driver i).dd ≤ (s.driver i).wd

/-- R111: a source is IMPLIED only while SPD's moving flag, and DTU's copy of it, is set; no report is IMPLIED. -/
def ImpliedLaw (s : State) : Prop :=
  s.spd.moving = s.dtu.moving ∧
    ∀ i, ((s.driver i).source = .implied → s.spd.moving = true) ∧
      ∀ r, (s.driver i).report = some r → r.2 ≠ .implied

/-- R111: at most one slot is in DRIVE. -/
def OneDriver (s : State) : Prop := ¬((s.driver 0).activity = .drive ∧ (s.driver 1).activity = .drive)

/-- R106, R114: in RUN the assertions of causes 45 to 49 stand as the activities, the flags and the sources have them. -/
def AssertionLaw (s : State) : Prop := inRun s = true → DrivingRight s ∧ ImpliedRight s

/-- R92: the line-lost assertion is set exactly while the line is LOST in RUN, and cause 44 is in ACTIVE or ACKED only then; in
LOADING the line is UNKNOWN and its timer stands (R80). -/
def LineLaw (s : State) : Prop :=
  (s.tlr.lostAssert = true ↔ s.tlr.line = .lost ∧ inRun s = true) ∧
    ((s.causeOf 44).state = .active ∨ (s.causeOf 44).state = .acked → s.tlr.lostAssert = true) ∧
    (inLoading s = true → s.tlr.line = .unknown ∧ s.tlr.lineTimer = none)

/-- R28: a channel that the last filter event found on a source other than HOST is fresh and not STALE. -/
def FreshLaw (s : State) : Prop :=
  ∀ c : Fin 8, (s.channel c).source ≠ .host → (s.channel c).fresh = true ∧ (s.channel c).state ≠ .stale

/-- R179: a slot is IN_PROGRESS exactly while its stamp differs from its echo. -/
def OrderLaw (s : State) : Prop :=
  ∀ k, (s.orderSlot k).progress ≠ .idle ↔ orderStamp s k ≠ (s.orderSlot k).echo

/-- The pulse constants that stand in NVS: in force, in a pending CAL request, in a CAL program in flight. -/
def pulses (s : State) : List Nat :=
  s.nvs.pulse :: ((s.nvs.cal.map fun r => r.1.pulse).toList ++
    ((programOf s.nvs.flight).toList.filter fun p => p.kind == .cal).map fun p => p.content.pulse)

/-- The ranges of SPD's state (R3, R8, R15): every pulse constant in 2,000–60,000, S below P, the hold count at most 2, v_pub
at most 25,000 and 0 outside RUN; in LOADING nothing has been counted. -/
def SpeedRanges (s : State) : Prop :=
  (∀ p ∈ pulses s, 2000 ≤ p ∧ p ≤ 60000) ∧ s.spd.remainder < s.nvs.pulse ∧ s.spd.hold ≤ 2 ∧ s.spd.vPub ≤ 25000 ∧
    (inRun s = false → s.spd.vPub = 0) ∧ (inLoading s = true → s.spd.remainder = 0)

end Sys2Proof.Machine
end

