-- ==== Sys2Proof/WellFormed.lean ====
section
/-! DEFINITION. Which commands can arise as the row names them. `exec` is total: it gives every
other term the effect of what its operands say on the pins. -/

namespace Sys2Proof

/-- A transfer names each stamp once, and a piece that begins no transaction clocks at least one byte or ends with a rise of
chip select. -/
def Xfer.wf (x : Xfer) : Bool :=
  decide x.takes.Nodup && (x.fall || !x.bytes.isEmpty || x.rise.isSome)

/-- An order of reactions names no block twice. -/
def orderWf (o : List Block) : Bool := decide o.Nodup

/-- The fields of a valid CARD frame (R87): for a withdraw the carried fields are not tested. -/
def CardFields.wf (f : CardFields) : Bool :=
  decide (1 ≤ f.slot.toNat ∧ f.slot.toNat ≤ 2 ∧ f.event.toNat ≤ 1) &&
    (f.event.toNat == 0 || decide (f.breakState.toNat ≤ 1))

/-- The checks of a command's operands, row by row. -/
def Instr.wf : Instr → Bool
  | .read _ x | .write _ x | .status _ x => x.wf
  | .unknownCommand _ code x => x.wf && code != 0x3A#8 && code != 0x5C#8 && code != 0x71#8
  | .timeFrame _ _ minute second => decide (minute.toNat ≤ 1439 ∧ second.toNat ≤ 59)
  | .activityFrame _ slot activity minute =>
      decide (1 ≤ slot.toNat ∧ slot.toNat ≤ 2 ∧ activity.toNat ≤ 3 ∧ minute.toNat ≤ 1439)
  | .cardFrame _ f => f.wf
  | .presenceFrame _ a1 a2 _ => decide (a1.toNat ≤ 3 ∧ a2.toNat ≤ 3)
  | .stepEvent _ silent => decide silent.Nodup
  | .lampDiagnosticSample _ openLamps => decide openLamps.Nodup
  | .loadingEnd _ o | .runEntry _ o | .standbyEntry _ o | .lowClear _ o => orderWf o
  | _ => true

end Sys2Proof
end

