-- ==== Sys2Proof/Certificates/Slice0/Obligations.lean ====
section
/-! DEFINITION. The statements for the provers. A statement about a command says, for every state and operands that meet
hypotheses on the state and the operands alone, that `exec` answers a next state, what that state holds, and which parts
of the state it leaves as they were (`OnlyChanges`). That a command acts at `instant t s`, and that a row whose condition does
not stand finds no event, is the model's choice (DESIGN CHOICE: log entry 1). -/

section

open Sys2Proof Sys2Proof.Machine

/-! ### The machine -/

/-- A step takes the command at the front of the queue and runs it with the queue's rest; with no command waiting the block
idles (log entry 1: the model's choice). -/
def Obligations.StepRunsTheFrontCommand : Prop :=
  (∀ (s : State) (c : Instr), step { s with pending := c :: s.pending } = exec c s) ∧
    ∀ s : State, s.pending = [] → step s = .next s

/-- No command faults or is refused, none touches the queue of waiting commands, and the time base never goes back. -/
def Obligations.CommandsKeepQueueAndClock : Prop :=
  ∀ (s : State) (c : Instr), ∃ u, exec c s = .next u ∧ u.pending = s.pending ∧ s.now ≤ u.now

/-- While the part is held in reset no event occurs, and RESET_BEGIN loses every block's state (R193). It stops the store's
operation where it stood (R159): a program has cleared the bits of the words whose 60 µs had passed, and nothing outside its
record or outside the sector of an erase has changed. No coil carries current, no lamp sinks, the sounder is low, every COM
and SEG stands at V0 and ATTN is released. The words that a cut program leaves are DEDUCED (log entry 16), and so are the note
of a calibration slot that was cut off part-way (log entry 36) and that the blocks and the pins stand at the values of a reset
while it lasts (log entry 33). -/
def Obligations.ResetCutsOffAndHolds : Prop :=
  (∀ (s : State) (c : Instr), s.psc.held = true → (∀ t pins, c ≠ .reset t pins) → (∀ t source, c ≠ .resetBegin t source) →
      exec c s = .next s) ∧
    (∀ (s : State) (t : Nat) (source : ResetSource), s.psc.held = true →
      ∃ u, exec (.resetBegin t source) s = .next u ∧
        u = { s with psc := { s.psc with bySupply := s.psc.bySupply || decide (source = .supply) } }) ∧
    ∀ (s : State) (t : Nat) (source : ResetSource), Awake s → MemoriesCanonical s →
      ∃ u, exec (.resetBegin t source) s = .next u ∧
        u = { State.reset with
          now := instant t s
          psc := { State.reset.psc with held := true, bySupply := decide (source = .supply) }
          nvs := { State.reset.nvs with array := u.nvs.array, calCut := u.nvs.calCut }
          freeCount := u.freeCount
          pending := s.pending } ∧
        ((∀ c : Fin 8, coilAngle u c = none) ∧ (∀ l : Fin 48, lampSink u l = false) ∧ sounderTone u = none ∧
          (∀ phase com : Fin 4, comLevel u phase com = .v0) ∧
          (∀ (phase : Fin 4) (seg : Fin 52), segLevel u phase seg = .v0) ∧ attnLow u = false) ∧
        (s.nvs.flight = .none → u.nvs.array = s.nvs.array ∧ u.freeCount = s.freeCount ∧ u.nvs.calCut = s.nvs.calCut) ∧
        (∀ p, s.nvs.flight = .program p → u.freeCount = s.freeCount ∧ CutNoted u s (instant t s) p ∧
          (∀ i, i < p.bytes.length → i < 4 * ((instant t s - p.startedAt) / 60) →
            arrayByte u (p.addr + i) = arrayByte s (p.addr + i) &&& p.bytes.getD i 0xFF) ∧
          (∀ a, (∀ i, i < p.bytes.length → i < 4 * ((instant t s - p.startedAt) / 60) → a ≠ p.addr + i) →
            arrayByte u a = arrayByte s a)) ∧
        (∀ e, s.nvs.flight = .erase e → u.nvs.calCut = s.nvs.calCut ∧
          ∀ a, (a < 4096 * e.sector ∨ 4096 * e.sector + 4096 ≤ a) → arrayByte u a = arrayByte s a) ∧
        ∀ e p, s.nvs.flight = .suspended e p → CutNoted u s (instant t s) p ∧
          (∀ a, (a < 4096 * e.sector ∨ 4096 * e.sector + 4096 ≤ a) → (a < p.addr ∨ p.addr + p.bytes.length ≤ a) →
            arrayByte u a = arrayByte s a) ∧
          ∀ i, i < p.bytes.length → (p.addr + i < 4096 * e.sector ∨ 4096 * e.sector + 4096 ≤ p.addr + i) →
            arrayByte u (p.addr + i) =
              if i < 4 * ((instant t s - p.startedAt) / 60) then arrayByte s (p.addr + i) &&& p.bytes.getD i 0xFF
              else arrayByte s (p.addr + i)

/-- What a reset leaves, part by part, as the tables of R1, R24, R51, R80, R95, R123, R140, R164, R179 and R193 state it:
everything but the array with the model's note of its slots cut off (DEDUCED: log entry 36), and the model's own clock, queue and
count of free values. The frame rate in use of 80 Hz is the code 1. The fields that the tables leave open (log entries 6, 7, 8
and 9) are not named here. -/
def Obligations.ResetLeavesTheStatedValues : Prop :=
  ∀ (s : State) (t : Nat) (pins : Pins), s.psc.held = true →
    ∃ u, exec (.reset t pins) s = .next u ∧
      (u.psc.held = false ∧ u.psc.power = .loading ∧ u.psc.ign = false ∧ u.psc.low = false ∧ u.psc.lowTimer = none ∧
        u.psc.proofTimer = none ∧ u.psc.lowAssert = false ∧ u.psc.supplyLow = pins.supplyLow ∧
        u.psc.ignRun = (if pins.ign then some (instant t s) else none) ∧
        u.psc.supplyRun = (if pins.supplyLow then some (instant t s) else none) ∧
        u.psc.cause = (if s.psc.bySupply then .powerOn else .external)) ∧
      (u.spd.gateState = .idle ∧ u.spd.gate = none ∧ u.spd.lastN = 0 ∧ u.spd.lastTsum = 0 ∧ u.spd.vPub = 0 ∧
        u.spd.hold = 0 ∧ u.spd.lastEdge = none ∧ u.spd.stallTimer = none ∧ u.spd.moving = false ∧
        u.spd.confirmRun = none ∧ u.spd.overspeed = false ∧ u.spd.noise = false ∧ u.spd.rejected = 0 ∧
        u.spd.remainder = 0) ∧
      (∀ c : Fin 8, (u.channel c).state = .unhomed ∧ (u.channel c).x = 0 ∧ (u.channel c).demand = 0 ∧
        (u.channel c).target = 0 ∧ (u.channel c).pos = 0 ∧ (u.channel c).vel = 0 ∧ (u.channel c).dir = .down ∧
        (u.channel c).mode = .track ∧ (u.channel c).fresh = true ∧ (u.channel c).freshTimer = none ∧
        (u.channel c).aMax = 0 ∧ (u.channel c).count = 0 ∧ (u.channel c).sweepDue = false ∧
        (u.channel c).parkDue = false ∧ (u.channel c).leg = .upLeg ∧ (u.channel c).missing = 0 ∧
        (u.channel c).stallCount = 0 ∧ (u.channel c).rehomeAt = none ∧ (u.channel c).calibration = false ∧
        (u.channel c).defaulted = false ∧ (u.channel c).warning = false) ∧
      (u.gau.faultAssert = false ∧ u.gau.staleAssert = false) ∧
      (∀ n : Fin 53, u.causeOf n = { state := .clear, cls := 3, argument := 0, dropped := false }) ∧
      (u.ttu.queue = [] ∧ u.ttu.playing = none ∧ u.ttu.arrival = 0 ∧ u.ttu.silence = none ∧ u.ttu.blink = 0 ∧
        u.ttu.lampTest = none ∧ u.ttu.lampFault = false ∧ u.ttu.ack = false) ∧
      (∀ n : Fin 32, u.ttu.hostRecords[n] = { raise := false, tag := 0, argument := 0 }) ∧
      (∀ l : Fin 48, u.ttu.lamps[l] =
        { lit := false, output := false, pattern := .steady, openRun := 0, isOpen := false, hold := false }) ∧
      (u.tlr.rx = .hunt ∧ u.tlr.frameType = 0 ∧ u.tlr.len = 0 ∧ u.tlr.payload = [] ∧ u.tlr.count = 0 ∧ u.tlr.sum = 0 ∧
        u.tlr.gapTimer = none ∧ u.tlr.line = .unknown ∧ u.tlr.lineTimer = none ∧
        u.tlr.lastFrame = none ∧ u.tlr.errors = 0 ∧ u.tlr.lostAssert = false) ∧
      (∀ i : Fin 2, (u.driver i).present = false ∧ (u.driver i).holderValid = false ∧ (u.driver i).report = none ∧
        (u.driver i).activity = .unknown ∧ (u.driver i).source = .none ∧ (u.driver i).sinceDay = 0 ∧
        (u.driver i).sinceMinute = 0 ∧ (u.driver i).cd = 0 ∧ (u.driver i).dd = 0 ∧ (u.driver i).wd = 0 ∧
        (u.driver i).br = 0 ∧ (u.driver i).firstPart = false ∧ (u.driver i).extended = false ∧
        (u.driver i).extensions = 0 ∧ (u.driver i).flags = ⟨false, false, false, false, false⟩ ∧
        (u.driver i).restored = false ∧ (u.driver i).logCount = 0 ∧ (u.driver i).logHead = 0) ∧
      (u.dtu.day = 0 ∧ u.dtu.minute = 0 ∧ u.dtu.second = 0 ∧ u.dtu.timeValid = false ∧ u.dtu.lastDay = 0 ∧
        u.dtu.lastMinute = 0 ∧ u.dtu.moving = false ∧ u.dtu.line = .unknown ∧ u.dtu.crewConflict = false ∧
        u.dtu.motionPosted = false ∧ u.dtu.snapTimer = none ∧ u.dtu.assert45 = false ∧ u.dtu.assert46 = false ∧
        u.dtu.assert47 = false ∧ u.dtu.assert48 = false ∧ u.dtu.assert49 = false ∧ u.dtu.profileDefaulted = false) ∧
      (u.sdu.panel = .undriven ∧ u.sdu.rate = 1 ∧ u.sdu.blinkOn = true ∧ u.sdu.count = 0 ∧
        (∀ com : Fin 4, u.sdu.image[com] = 0 ∧ u.sdu.composed[com] = 0) ∧
        (∀ f : Fin 16, u.sdu.fields[f].state = .off ∧ u.sdu.fields[f].blinking = false ∧ u.sdu.fields[f].won = 0) ∧
        ∀ n : Fin 4, ∀ i : Fin 12, u.sdu.texts[n][i] = 0) ∧
      (u.nvs.active = false ∧ u.nvs.odo = none ∧ u.nvs.cal = none ∧ u.nvs.snap = none ∧ u.nvs.sets = none ∧
        (∀ sec : Fin 14, u.nvs.due[sec] = false) ∧ u.nvs.flight = .none ∧ u.nvs.faults.any = false ∧
        u.nvs.storeFault = false ∧ u.nvs.array = s.nvs.array ∧ u.nvs.calCut = s.nvs.calCut) ∧
      (u.host = [] ∧ u.lnk.port.csLow = pins.chipSelectLow ∧
        u.lnk.port.state = (if pins.chipSelectLow then .waitCs else .idle) ∧ u.lnk.port.writeBuffer = [] ∧
        u.lnk.discard = .none ∧ u.lnk.cursor = 0 ∧ u.lnk.postCounter = 0 ∧ u.lnk.backlog = [] ∧
        attention u = false ∧ (∀ j : Fin 32, u.lnk.journal[j].post = 0 ∧ slotFilled u j = false) ∧
        (∀ n : Fin 32, u.lnk.causeEcho[n] = 0) ∧ (∀ c : Fin 8, u.lnk.gaugeEcho[c] = 0) ∧
        (∀ n : Fin 4, u.lnk.textEcho[n] = 0) ∧
        ∀ k : Fin 8, u.orderSlot k = { progress := .idle, echo := 0, result := 0, detail := 0 })

/-! ### The link -/

/-- A READ shifts out 00h through the command byte, the address bytes and the turnaround byte, and then the exchange memory
from its address on, wrapping at 2000h, all FFh in LOADING (R166, R167). A READ that goes on after chip select stayed low
shows the rest of the line it had captured, and a fresh capture of every line it enters. No READ changes anything but the
port. The exchange memory reads as R202 to R206 lay it out: the header, the host's own bytes, the answers and echoes, the
calibration section, the mirrors, the driver records and logs, the journal, and 00h where nothing is assigned. The source byte
of an absent report is the model's choice (DESIGN CHOICE: log entry 48), and so are part-owned bytes that are computed as a READ
captures them (DESIGN CHOICE: log entry 32). -/
def Obligations.ReadShiftsOut : Prop :=
  (∀ (s : State) (t : Nat) (low high turn : Byte) (dummies : List Byte) (rise : Option (Fin 8)) (takes : List Nat),
      Awake s → s.lnk.port.csLow = false →
      ∃ u, exec (.read t ⟨true, low :: high :: turn :: dummies, rise, takes⟩) s = .next u ∧
        u.lnk.port.out = [0, 0, 0, 0] ++ (List.range dummies.length).map (fun i =>
          if s.psc.power = .loading then 0xFF
          else exchangeByte s (((low.toNat + 256 * high.toNat) % 8192 + i) % 8192)) ∧
        u.lnk.port.csLow = rise.isNone ∧ OnlyChanges [.port] (tick t s) u) ∧
    (∀ (s : State) (t : Nat) (dummies : List Byte) (rise : Option (Fin 8)) (takes : List Nat),
      Awake s → s.lnk.port.csLow = true → s.lnk.port.command = some .read → s.lnk.port.state = .data →
      s.lnk.port.address < 8192 → s.lnk.port.line.length = 16 →
      ∃ u, exec (.read t ⟨false, dummies, rise, takes⟩) s = .next u ∧
        u.lnk.port.out = s.lnk.port.out ++ (List.range dummies.length).map (fun i =>
          if s.lnk.port.address / 16 = s.lnk.port.lineNumber ∧ s.lnk.port.address % 16 + i < 16 then
            s.lnk.port.line.getD (s.lnk.port.address % 16 + i) 0
          else if s.psc.power = .loading then 0xFF
          else exchangeByte s ((s.lnk.port.address + i) % 8192)) ∧
        u.lnk.port.csLow = rise.isNone ∧ OnlyChanges [.port] (tick t s) u) ∧
    CodesRight ∧
    ∀ s : State, HeaderShows s ∧ HostBytesShow s ∧ UnassignedShow s ∧ AnswersShow s ∧ CountersShow s ∧ GaugesShow s ∧
      CausesAndLampsShow s ∧ SounderShows s ∧ DriversShow s ∧ DisplayShows s ∧ JournalShows s

/-- STATUS shifts out the link status byte in every byte after the command byte, its five fields as R168 states them, in
every power state, and changes nothing but the port; no READ changes the DISCARD reason. The ATTN pin is driven low exactly
while the byte's ATTN field is set (R176). -/
def Obligations.StatusShiftsOutTheLinkStatusByte : Prop :=
  (∀ (s : State) (t : Nat) (dummies : List Byte) (rise : Option (Fin 8)) (takes : List Nat),
      Awake s → s.lnk.port.csLow = false →
      ∃ u, exec (.status t ⟨true, dummies, rise, takes⟩) s = .next u ∧
        u.lnk.port.out = 0 :: List.replicate dummies.length (linkStatus s) ∧ OnlyChanges [.port] (tick t s) u) ∧
    (∀ (s : State) (t : Nat) (dummies : List Byte) (rise : Option (Fin 8)) (takes : List Nat),
      Awake s → s.lnk.port.csLow = true → s.lnk.port.command = some .status → s.lnk.port.state = .data →
      ∃ u, exec (.status t ⟨false, dummies, rise, takes⟩) s = .next u ∧
        u.lnk.port.out = s.lnk.port.out ++ List.replicate dummies.length (linkStatus s) ∧
        OnlyChanges [.port] (tick t s) u) ∧
    (∀ s : State,
      (bit (linkStatus s) 0 = true ↔ s.psc.power ≠ .loading) ∧ (bit (linkStatus s) 1 = true ↔ s.psc.power = .standby) ∧
      (bit (linkStatus s) 2 = true ↔ s.lnk.backlog ≠ [] ∨
        ∃ j : Fin 32, slotFilled s j = true ∧ maskBit s s.lnk.journal[j].kind.code = true) ∧
      (bit (linkStatus s) 3 = true ↔ s.psc.low = true) ∧ field (linkStatus s) 4 3 = s.lnk.discard.code ∧
      bit (linkStatus s) 7 = false ∧ (attnLow s = true ↔ bit (linkStatus s) 2 = true)) ∧
    ∀ (s : State) (t : Nat) (x : Xfer), ∃ u, exec (.read t x) s = .next u ∧ u.lnk.discard = s.lnk.discard

/-- An unknown command code puts the port in IGNORE until chip select rises (R166), and the rise of chip select ends
WAIT_CS (R164). Neither changes anything but the port. -/
def Obligations.UnknownCommandIsIgnored : Prop :=
  (∀ (s : State) (t : Nat) (code : Byte) (x : Xfer), Awake s → s.lnk.port.csLow = false → x.fall = true →
      code ≠ 0x3A → code ≠ 0x5C → code ≠ 0x71 →
      ∃ u, exec (.unknownCommand t code x) s = .next u ∧ OnlyChanges [.port] (tick t s) u ∧
        u.lnk.port.csLow = x.rise.isNone ∧ u.lnk.port.state = (if x.rise.isNone then .ignore else .idle) ∧
        u.lnk.port.out.length = x.bytes.length + 1 ∧ u.lnk.port.out.head? = some 0) ∧
    (∀ (s : State) (t : Nat), Awake s → s.lnk.port.state = .waitCs →
      ∃ u, exec (.chipSelectRiseInWaitCs t) s = .next u ∧ OnlyChanges [.port] (tick t s) u ∧
        u.lnk.port = { s.lnk.port with csLow := false, state := .idle }) ∧
    ∀ (s : State) (t : Nat), Awake s → s.lnk.port.state ≠ .waitCs →
      exec (.chipSelectRiseInWaitCs t) s = .next (tick t s)

/-- A WRITE is discarded for the first of the five tests it fails, in their order, and then nothing lands (R169, R170). It may
come in several pieces, with other events between them: while chip select stays low its bytes gather in the write buffer, 00h is
shifted out (R166) and nothing else changes, and at the rise it is judged by the state at the rise. One that ends before its first
data byte is RAGGED, whichever byte it ends after. -/
def Obligations.WriteIsDiscardedForTheFirstFailedTest : Prop :=
  (∀ (s : State) (t : Nat) (low high : Byte) (data : List Byte) (bits : Fin 8) (takes : List Nat),
      Awake s → s.lnk.port.csLow = false →
      ∃ u, exec (.write t ⟨true, low :: high :: data, some bits, takes⟩) s = .next u ∧ u.lnk.port.csLow = false ∧
        WriteJudged u s ((low.toNat + 256 * high.toNat) % 8192) data bits ∧
        (u.lnk.discard ≠ .none → OnlyChanges [.port, .discard] (tick t s) u)) ∧
    (∀ (s : State) (t : Nat) (bytes : List Byte) (bits : Fin 8) (takes : List Nat),
      Awake s → s.lnk.port.csLow = false → bytes.length ≤ 2 →
      ∃ u, exec (.write t ⟨true, bytes, some bits, takes⟩) s = .next u ∧ u.lnk.port.csLow = false ∧
        u.lnk.discard = .ragged ∧ OnlyChanges [.port, .discard] (tick t s) u) ∧
    (∀ (s : State) (t : Nat) (bytes : List Byte) (bits : Fin 8) (takes : List Nat),
      Awake s → s.lnk.port.csLow = true → s.lnk.port.command = some .write → s.lnk.port.state = .address →
      s.lnk.port.writeCount = 0 → s.lnk.port.addressBytes ≤ 1 → s.lnk.port.addressBytes + bytes.length ≤ 2 →
      ∃ u, exec (.write t ⟨false, bytes, some bits, takes⟩) s = .next u ∧ u.lnk.port.csLow = false ∧
        u.lnk.discard = .ragged ∧ OnlyChanges [.port, .discard] (tick t s) u) ∧
    (∀ (s : State) (t : Nat) (low high : Byte) (data : List Byte) (takes : List Nat),
      Awake s → s.lnk.port.csLow = false →
      ∃ u, exec (.write t ⟨true, low :: high :: data, none, takes⟩) s = .next u ∧
        WriteOpen u ((low.toNat + 256 * high.toNat) % 8192) data ∧
        u.lnk.port.out = List.replicate (3 + data.length) 0 ∧ OnlyChanges [.port] (tick t s) u) ∧
    (∀ (s : State) (t : Nat) (first rest : List Byte) (rise : Option (Fin 8)) (takes takes' : List Nat),
      Awake s → s.lnk.port.csLow = false →
      ∃ u, exec (.write t ⟨true, first, none, takes'⟩) s = .next u ∧
        exec (.write t ⟨false, rest, rise, takes⟩) u = exec (.write t ⟨true, first ++ rest, rise, takes⟩) s) ∧
    (∀ (s : State) (t a : Nat) (data more : List Byte) (takes : List Nat), Awake s → WriteOpen s a data →
      ∃ u, exec (.write t ⟨false, more, none, takes⟩) s = .next u ∧ WriteOpen u a (data ++ more) ∧
        u.lnk.port.out = s.lnk.port.out ++ List.replicate more.length 0 ∧ OnlyChanges [.port] (tick t s) u) ∧
    ∀ (s : State) (t a : Nat) (data more : List Byte) (bits : Fin 8) (takes : List Nat), Awake s → WriteOpen s a data →
      ∃ u, exec (.write t ⟨false, more, some bits, takes⟩) s = .next u ∧ u.lnk.port.csLow = false ∧
        WriteJudged u s a (data ++ more) bits ∧
        (u.lnk.discard ≠ .none → OnlyChanges [.port, .discard] (tick t s) u)

/-- A WRITE that passes the five tests lands whole, and one that changes no stamp does nothing else (R169, R171). One that
changes stamps of several host records delivers one take for each, in any order: the record's echo equals its new stamp, what
the owner stores is the record as it stands after the commit, and a record whose stamp kept its value is not taken (R171,
R29, R58, R136). A WRITE in several pieces does at its rise, but to the port, what a whole WRITE of all its bytes would do there
(R169). That a take in STANDBY stores the same fields as one in RUN, a request 0 its request alone, is the model's choice (DESIGN
CHOICE: log entry 54). -/
def Obligations.WriteLands : Prop :=
  (∀ (s : State) (t : Nat) (low high : Byte) (data : List Byte) (takes : List Nat),
    Awake s → s.lnk.port.csLow = false → s.psc.power ≠ .loading → MemoriesCanonical s →
    data ≠ [] → data.length ≤ 64 →
    (∀ i, i < data.length →
      ownerOf (((low.toNat + 256 * high.toNat) % 8192 + i) % 8192) ≠ .unassigned ∧
        ¬Protected s data.length (((low.toNat + 256 * high.toNat) % 8192 + i) % 8192) (data.getD i 0) ∧
        ((low.toNat + 256 * high.toNat) % 8192 + i) % 8192 < 0x1400 ∧
        (isStamp (((low.toNat + 256 * high.toNat) % 8192 + i) % 8192) = true →
          data.getD i 0 = hostByte s (((low.toNat + 256 * high.toNat) % 8192 + i) % 8192))) →
    ∃ u, exec (.write t ⟨true, low :: high :: data, some 0, takes⟩) s = .next u ∧
      OnlyChanges [.port, .discard, .host] (tick t s) u ∧ u.lnk.port.csLow = false ∧ u.lnk.discard = .none ∧
      (∀ i, i < data.length →
        hostByte u (((low.toNat + 256 * high.toNat) % 8192 + i) % 8192) = data.getD i 0) ∧
      ∀ a, (∀ i, i < data.length → a ≠ ((low.toNat + 256 * high.toNat) % 8192 + i) % 8192) →
        hostByte u a = hostByte s a) ∧
    (∀ (s : State) (t : Nat) (low high : Byte) (data more : List Byte) (bits : Fin 8) (takes : List Nat), Awake s →
      WriteOpen s ((low.toNat + 256 * high.toNat) % 8192) data → ∀ closed : State,
      closed = { s with lnk := { s.lnk with port := { s.lnk.port with csLow := false } } } →
      ∃ u v, exec (.write t ⟨false, more, some bits, takes⟩) s = .next u ∧
        exec (.write t ⟨true, low :: high :: (data ++ more), some bits, takes⟩) closed = .next v ∧
        u.lnk.port.csLow = false ∧ u = { v with lnk := { v.lnk with port := u.lnk.port } }) ∧
    ∀ (s : State) (t : Nat) (low high : Byte) (data : List Byte) (takes : List Nat),
      Awake s → s.lnk.port.csLow = false → s.psc.power ≠ .loading → MemoriesCanonical s →
      data ≠ [] → data.length ≤ 64 → ∀ a, a = (low.toNat + 256 * high.toNat) % 8192 →
      0x100 ≤ a → a + data.length ≤ 0x200 →
      ∃ u, exec (.write t ⟨true, low :: high :: data, some 0, takes⟩) s = .next u ∧ Landed u s a data ∧
        OnlyChanges [.port, .discard, .host, .causeEcho, .gaugeEcho, .textEcho, .ttu, .gau, .sdu, .journal] (tick t s) u ∧
        (∀ n : Fin 32, (hostByte u (0x100 + 4 * n.val) = hostByte s (0x100 + 4 * n.val) →
            u.lnk.causeEcho[n] = s.lnk.causeEcho[n] ∧ u.ttu.hostRecords[n] = s.ttu.hostRecords[n] ∧
              (u.causeOf (hostCause n)).state = (s.causeOf (hostCause n)).state) ∧
          (hostByte u (0x100 + 4 * n.val) ≠ hostByte s (0x100 + 4 * n.val) →
            u.lnk.causeEcho[n] = hostByte u (0x100 + 4 * n.val) ∧
            (hostByte u (0x101 + 4 * n.val) = 1 →
              u.ttu.hostRecords[n] =
                ⟨true, (hostByte u (0x102 + 4 * n.val)).toNat % 8, hostByte u (0x103 + 4 * n.val)⟩ ∧
              (inRun s = true → (s.causeOf (hostCause n)).state = .clear ∨ (s.causeOf (hostCause n)).state = .held →
                (u.causeOf (hostCause n)).state = .active)) ∧
            (hostByte u (0x101 + 4 * n.val) = 0 → u.ttu.hostRecords[n] = { s.ttu.hostRecords[n] with raise := false } ∧
              (inRun s = true → (u.causeOf (hostCause n)).state = clearedState s (hostCause n))))) ∧
        (∀ c : Fin 8, (hostByte u (0x180 + 8 * c.val) = hostByte s (0x180 + 8 * c.val) →
            u.lnk.gaugeEcho[c] = s.lnk.gaugeEcho[c] ∧ u.channel c = s.channel c) ∧
          (hostByte u (0x180 + 8 * c.val) ≠ hostByte s (0x180 + 8 * c.val) →
            u.lnk.gaugeEcho[c] = hostByte u (0x180 + 8 * c.val) ∧
              (u.channel c).storedMode = (if hostByte u (0x181 + 8 * c.val) = 0 then .track
                else if hostByte u (0x181 + 8 * c.val) = 1 then .hold else .rest) ∧
              (u.channel c).storedValue = host16 u (0x182 + 8 * c.val))) ∧
        ∀ n : Fin 4, (hostByte u (0x1C0 + 16 * n.val) = hostByte s (0x1C0 + 16 * n.val) →
            u.lnk.textEcho[n] = s.lnk.textEcho[n] ∧ u.sdu.texts[n] = s.sdu.texts[n]) ∧
          (hostByte u (0x1C0 + 16 * n.val) ≠ hostByte s (0x1C0 + 16 * n.val) →
            u.lnk.textEcho[n] = hostByte u (0x1C0 + 16 * n.val) ∧
              ∀ i : Fin 12, u.sdu.texts[n][i] = hostByte u (0x1C1 + 16 * n.val + i.val))

/-- JOURNAL_FREE frees its slot. When that was the filled slot at the cursor, entries are posted from the head of the
backlog, each with its own fold count, time and payload, into slots that are free, until the backlog is empty or the cursor slot
is filled; otherwise the backlog waits (R175). A record that any block hands LNK (`post`) is posted into a free cursor slot with
fold count 1, the post counter as sequence, the time of day and the clear mark plus 1 as post mark, moving the cursor and the
counter by 1 (R173); at a filled one it folds: a new entry at the tail, or one more in the entry of its kind, which keeps its
place, holds at 255 and takes the record's time and payload (R174). -/
def Obligations.JournalFreeDrainsTheBacklog : Prop :=
  (∀ (s : State) (t : Nat) (j : Fin 32), Awake s → LinkFree s → MemoriesCanonical s → s.lnk.postCounter < 65536 →
    ∃ u, exec (.journalFree t j) s = .next u ∧ Landed u s (0x1401 + 16 * j.val) [s.lnk.journal[j].post] ∧
      (slotFilled s j = false ∨ j ≠ cursorSlot s ∨ s.lnk.backlog = [] →
        slotFilled u j = false ∧ OnlyChanges [.port, .discard, .host] (tick t s) u) ∧
      (slotFilled s j = true → j = cursorSlot s → s.lnk.backlog ≠ [] →
        OnlyChanges [.port, .discard, .host, .journal] (tick t s) u ∧
        ∃ k, 1 ≤ k ∧ k ≤ s.lnk.backlog.length ∧ k ≤ 32 ∧ u.lnk.backlog = s.lnk.backlog.drop k ∧
          (u.lnk.backlog = [] ∨ slotFilled u (cursorSlot u) = true) ∧
          (∀ i, 1 ≤ i → i < k → slotFilled s (Fin.ofNat 32 (s.lnk.cursor + i)) = false) ∧
          u.lnk.cursor = (s.lnk.cursor + k) % 32 ∧ u.lnk.postCounter = (s.lnk.postCounter + k) % 65536 ∧
          (∀ i, i < k → ∀ e, s.lnk.backlog[i]? = some e →
            u.lnk.journal[(Fin.ofNat 32 (s.lnk.cursor + i) : Fin 32)] =
              { post := clearMark u (Fin.ofNat 32 (s.lnk.cursor + i)) + 1, kind := e.kind, fold := e.fold
                sequence := (s.lnk.postCounter + i) % 65536, day := e.day, minute := e.minute, payload := e.payload }) ∧
          ∀ m : Fin 32, (∀ i, i < k → m ≠ Fin.ofNat 32 (s.lnk.cursor + i)) → u.lnk.journal[m] = s.lnk.journal[m])) ∧
    ∀ (s : State) (kind : RecordKind) (payload : List Byte),
      Handed (post kind payload s) s kind payload ∧ OnlyChanges [.journal] s (post kind payload s)

/-- The take of a host cause record (R58) writes its echo and its stored record, and in RUN raises or clears the cause as
R54 and R55 state; a change of the cause's state, and nothing else, is recorded in the journal. No other cause's state,
class or argument changes. That a take in STANDBY stores the same fields as one in RUN, a request 0 its request alone, is the
model's choice (DESIGN CHOICE: log entry 54). -/
def Obligations.HostCauseTake : Prop :=
  ∀ (s : State) (t : Nat) (n : Fin 32) (stamp request tag argument : Byte),
    Awake s → LinkFree s → MemoriesCanonical s → stamp ≠ hostByte s (0x100 + 4 * n.val) →
    ∃ u, exec (.hostCauseTake t n stamp request tag argument) s = .next u ∧
      Landed u s (0x100 + 4 * n.val) [stamp, request, tag, argument] ∧
      OnlyChanges [.port, .discard, .host, .causeEcho, .ttu, .journal] (tick t s) u ∧
      u.lnk.causeEcho = vset s.lnk.causeEcho n stamp ∧
      u.ttu.hostRecords = (if request = 1 then vset s.ttu.hostRecords n ⟨true, tag.toNat % 8, argument⟩
        else if request = 0 then vset s.ttu.hostRecords n { s.ttu.hostRecords[n] with raise := false }
        else s.ttu.hostRecords) ∧
      (∀ m : Fin 53, m.val ≠ n.val → (u.causeOf m).state = (s.causeOf m).state ∧
        (u.causeOf m).cls = (s.causeOf m).cls ∧ (u.causeOf m).argument = (s.causeOf m).argument) ∧
      (inRun s = false ∨ (request ≠ 0 ∧ request ≠ 1) → u.ttu.causes = s.ttu.causes ∧ Part.journal.same s u) ∧
      (inRun s = true → request = 1 →
        (s.causeOf (hostCause n)).state = .clear ∨ (s.causeOf (hostCause n)).state = .held →
        (u.causeOf (hostCause n)).state = .active ∧
          (u.causeOf (hostCause n)).cls = urgencyClass s (tag.toNat % 8) ∧
          (u.causeOf (hostCause n)).argument = argument ∧
          Recorded u s .causeChange [u8 n.val, u8 1, u8 (s.causeOf (hostCause n)).state.code,
            u8 (urgencyClass s (tag.toNat % 8)), argument, u8 0]) ∧
      (inRun s = true → request = 1 →
        (s.causeOf (hostCause n)).state = .active ∨ (s.causeOf (hostCause n)).state = .acked →
        u.causeOf (hostCause n) = { s.causeOf (hostCause n) with argument := argument } ∧ Part.journal.same s u) ∧
      (inRun s = true → request = 0 →
        u.causeOf (hostCause n) = { s.causeOf (hostCause n) with state := clearedState s (hostCause n) } ∧
        (if clearedState s (hostCause n) = (s.causeOf (hostCause n)).state then Part.journal.same s u
        else Recorded u s .causeChange
          [u8 n.val, u8 (clearedState s (hostCause n)).code, u8 (s.causeOf (hostCause n)).state.code,
            u8 (s.causeOf (hostCause n)).cls, (s.causeOf (hostCause n)).argument, u8 1])) ∧
      ∀ l : Fin 48, u.ttu.lamps[l].hold =
        (s.ttu.lamps[l].hold && !(inRun s && decide (causeLamp s (hostCause n) = some l)))

/-- The take of a gauge demand record (R29) writes its echo and stores its mode and value in every power state; while the
channel's source is HOST the value and mode act at once, STALE is left, HOLD freezes the demand at the target, and in RUN a
TRACK or REST take restarts the freshness timer (R30) and a TRACK take decides the warning (R44). That a take in STANDBY leaves
fresh and the timer as they are unless it is a HOLD is DEDUCED (log entry 21). -/
def Obligations.GaugeDemandTake : Prop :=
  ∀ (s : State) (t : Nat) (c : Fin 8) (stamp mode : Byte) (value : BitVec 16),
    Awake s → LinkFree s → MemoriesCanonical s → stamp ≠ hostByte s (0x180 + 8 * c.val) →
    ∃ u, exec (.gaugeDemandTake t c stamp mode value) s = .next u ∧
      Landed u s (0x180 + 8 * c.val) ([stamp, mode] ++ le 2 value.toNat) ∧
      OnlyChanges [.port, .discard, .host, .gaugeEcho, .gau, .ttu, .journal] (tick t s) u ∧
      u.lnk.gaugeEcho = vset s.lnk.gaugeEcho c stamp ∧
      (∀ d : Fin 8, d ≠ c → u.channel d = s.channel d) ∧
      u.channel c = { s.channel c with
        storedMode := (if mode = 0 then .track else if mode = 1 then .hold else .rest)
        storedValue := value.toNat
        x := (u.channel c).x, mode := (u.channel c).mode, state := (u.channel c).state
        missing := (u.channel c).missing, demand := (u.channel c).demand, fresh := (u.channel c).fresh
        freshTimer := (u.channel c).freshTimer, warning := (u.channel c).warning
        defaulted := (u.channel c).defaulted } ∧
      (gaugeSource s c ≠ .host →
        (u.channel c).x = (s.channel c).x ∧ (u.channel c).mode = (s.channel c).mode ∧
          (u.channel c).state = (s.channel c).state ∧ (u.channel c).demand = (s.channel c).demand ∧
          (u.channel c).fresh = (s.channel c).fresh ∧ (u.channel c).freshTimer = (s.channel c).freshTimer ∧
          (u.channel c).warning = (s.channel c).warning ∧ u.ttu = s.ttu) ∧
      (gaugeSource s c = .host →
        (u.channel c).x = value.toNat ∧ (u.channel c).mode = (u.channel c).storedMode ∧
          (u.channel c).state = (if (s.channel c).state = .stale then .tracking else (s.channel c).state) ∧
          (u.channel c).demand = (if mode = 1 then (s.channel c).target else (s.channel c).demand) ∧
          (mode = 1 ∨ inRun s = true → (u.channel c).fresh = true ∧ (u.channel c).freshTimer =
            (if mode = 1 ∨ freshness s c = 0 then none else some (instant t s + freshness s c))) ∧
          (mode ≠ 1 → inRun s = false → (u.channel c).fresh = (s.channel c).fresh ∧
            (u.channel c).freshTimer = (s.channel c).freshTimer) ∧
          (inRun s = true → mode = 0 →
            WarningDecided (warningMode s c) (thresholdL s c) (thresholdH s c) (hysteresis s c) value.toNat
              (s.channel c).warning (u.channel c).warning ∧
            ((s.channel c).warning = false → (u.channel c).warning = true →
              (s.causeOf (warningCause c)).state = .clear ∨ (s.causeOf (warningCause c)).state = .held →
              (u.causeOf (warningCause c)).state = .active ∧
                (u.causeOf (warningCause c)).cls = urgencyClass s (warningTag s c))) ∧
          (inRun s = false ∨ mode ≠ 0 → (u.channel c).warning = (s.channel c).warning))

/-- The take of a text record copies its twelve codes whole and writes its echo, in RUN and in STANDBY (R136). -/
def Obligations.TextTake : Prop :=
  ∀ (s : State) (t : Nat) (n : Fin 4) (stamp : Byte) (codes : Vector Byte 12),
    Awake s → LinkFree s → MemoriesCanonical s → stamp ≠ hostByte s (0x1C0 + 16 * n.val) →
    ∃ u, exec (.textTake t n stamp codes) s = .next u ∧ Landed u s (0x1C0 + 16 * n.val) (stamp :: codes.toList) ∧
      OnlyChanges [.port, .discard, .host, .textEcho, .sdu] (tick t s) u ∧
      u.lnk.textEcho = vset s.lnk.textEcho n stamp ∧ u.sdu = { s.sdu with texts := vset s.sdu.texts n codes }

/-! ### Orders -/

/-- ACKNOWLEDGE (R183, R60) takes every named cause in RUN where R56 says, removes the requests of the causes it takes out of
ACTIVE, and is answered DONE with the number of causes whose state changed. -/
def Obligations.AcknowledgeOrder : Prop :=
  ∀ (s : State) (t : Nat) (k : Fin 8) (stamp cause : Byte), OrderTaken t k stamp s →
    cause.toNat ≤ 52 ∨ cause.toNat = 255 →
    ∃ u, exec (.acknowledge t k stamp cause) s = .next u ∧ Landed u s (orderAddr k) [stamp, 0x01, cause] ∧
      OnlyChanges [.port, .discard, .host, .orders, .ttu, .journal] (tick t s) u ∧ OtherSlotsKept u s k ∧
      (∀ n : Fin 53, u.causeOf n =
        if inRun s = true ∧ (cause.toNat = 255 ∨ cause.toNat = n.val) then
          { s.causeOf n with state := ackedState (s.causeOf n) }
        else s.causeOf n) ∧
      requests u = (requests s).filter (fun r => decide ((u.causeOf r.cause).state = (s.causeOf r.cause).state ∨
        (s.causeOf r.cause).state ≠ .active)) ∧
      Answered u k stamp 0x00
        ((List.finRange 53).countP fun n => decide ((u.causeOf n).state ≠ (s.causeOf n).state))

/-- A RESET TRIP order sets the named trip to 0 and keeps S, the odometer and the other trip, and the mirror shows the new
value at once; a unit taken just after leaves the trip at 1, and one taken just before leaves it at 0 (R18). -/
def Obligations.ResetTripOrder : Prop :=
  ∀ (s : State) (t : Nat) (k : Fin 8) (stamp trip : Byte), OrderTaken t k stamp s → trip.toNat ≤ 1 →
    ∃ u, exec (.resetTrip t k stamp trip) s = .next u ∧ Landed u s (orderAddr k) [stamp, 0x02, trip] ∧
      OnlyChanges [.port, .discard, .host, .orders, .spd] (tick t s) u ∧ OtherSlotsKept u s k ∧
      Answered u k stamp 0x00 0 ∧
      u.spd = (if trip.toNat = 0 then { s.spd with tripA := 0 } else { s.spd with tripB := 0 }) ∧
      (∀ i, i < 4 → exchangeByte u (0xC34 + 4 * trip.toNat + i) = 0) ∧
      ∀ (e : Nat) (rising : Bool), Accepted e rising u → u.nvs.pulse ≤ u.spd.remainder + 100 →
        ∃ v, exec (.speedEdge e rising) u = .next v ∧ (if trip.toNat = 0 then v.spd.tripA else v.spd.tripB) = 1

/-- A REHOME order (R185, R43) sends every named channel to HOMING with a new latch of a_max, a full count, no stall count
and no rehome time, leaves the other channels as they are, re-evaluates the fault assertion, and posts a GAUGE_STATE record
for each channel that leaves FAULT (R46): it stands in a slot of its own, or in the backlog, where the record of a later such
channel may have folded over it, and none is posted while no named channel is in FAULT. The model's choices: the record bears
the position and the stall count as log entry 17 says (DEDUCED), it stands ahead of the CAUSE_CHANGE of cause 42 (DEDUCED: log
entry 13), and a later channel is one of a higher number (DESIGN CHOICE: log entry 37). -/
def Obligations.RehomeOrder : Prop :=
  ∀ (s : State) (t : Nat) (k : Fin 8) (stamp mask : Byte), OrderTaken t k stamp s → mask ≠ 0 → inRun s = true →
    ∃ u, exec (.rehome t k stamp mask) s = .next u ∧ Landed u s (orderAddr k) [stamp, 0x03, mask] ∧
      OnlyChanges [.port, .discard, .host, .orders, .gau, .ttu, .journal] (tick t s) u ∧ OtherSlotsKept u s k ∧
      Answered u k stamp 0x00 0 ∧
      (∀ c : Fin 8, bit mask c.val = false → u.channel c = s.channel c) ∧
      (∀ c : Fin 8, bit mask c.val = true → u.channel c = { s.channel c with
        state := .homing, missing := 0, stallCount := 0, rehomeAt := none, sweepDue := false, parkDue := false
        aMax := sweepLimit s c, count := sweepLimit s c + homeOverrun s c, pos := sweepLimit s c + homeOverrun s c
        dir := .down, vel := 0, defaulted := (u.channel c).defaulted }) ∧
      (u.gau.faultAssert = true ↔ ∃ c : Fin 8, (u.channel c).state = .fault ∨ (u.channel c).calibration = true) ∧
      (∀ c : Fin 8, (∀ d : Fin 8, bit mask d.val = true ↔ d = c) → (s.channel c).state = .fault →
        Recorded u s .gaugeState ([u8 c.val, u8 1, u8 0, gaugeFlags (s.channel c)] ++ le 2 (s.channel c).pos)) ∧
      (∀ c : Fin 8, bit mask c.val = true → (s.channel c).state = .fault →
        Posted u s .gaugeState ([u8 c.val, u8 1, u8 0, gaugeFlags (s.channel c)] ++ le 2 (s.channel c).pos) ∨
          ∃ d : Fin 8, c < d ∧ bit mask d.val = true ∧ (s.channel d).state = .fault ∧
            ∃ e ∈ u.lnk.backlog, e.kind = .gaugeState ∧
              e.payload = padTo 8 ([u8 d.val, u8 1, u8 0, gaugeFlags (s.channel d)] ++ le 2 (s.channel d).pos)) ∧
      ((∀ c : Fin 8, bit mask c.val = true → (s.channel c).state ≠ .fault) → NotPosted u s .gaugeState)

/-- A LAMP TEST order in NORMAL clears every OPEN flag, lights every lamp steady for its duration and touches no cause but
52 (R69, R186). LAMP_TEST_END returns every lamp to R64 and the proof-hold set. -/
def Obligations.LampTestOrder : Prop :=
  (∀ (s : State) (t : Nat) (k : Fin 8) (stamp seconds : Byte), OrderTaken t k stamp s → inNormal s = true →
      1 ≤ seconds.toNat → seconds.toNat ≤ 10 →
      ∃ u, exec (.lampTest t k stamp seconds) s = .next u ∧ Landed u s (orderAddr k) [stamp, 0x04, seconds] ∧
        OnlyChanges [.port, .discard, .host, .orders, .ttu, .journal] (tick t s) u ∧ OtherSlotsKept u s k ∧
        Answered u k stamp 0x00 0 ∧ u.ttu.lampTest = some (instant t s + 1000000 * seconds.toNat) ∧
        u.ttu.testLeft = 1000 * seconds.toNat ∧ u.ttu.lampFault = false ∧ u.ttu.blink = s.ttu.blink ∧
        (∀ l : Fin 48, u.ttu.lamps[l] = { s.ttu.lamps[l] with
          lit := true, output := true, pattern := .steady, openRun := 0, isOpen := false }) ∧
        (∀ n : Fin 53, n ≠ 52 → u.causeOf n = s.causeOf n) ∧
        u.causeOf 52 = (if s.ttu.lampFault then { s.causeOf 52 with state := clearedState s 52 } else s.causeOf 52) ∧
        (s.ttu.lampFault = false → requests u = requests s ∧ u.ttu.silence = s.ttu.silence)) ∧
    (∀ (s : State) (t : Nat), Awake s → expired (instant t s) s.ttu.lampTest = true → s.ttu.blink < 8 →
      ∃ u, exec (.lampTestEnd t) s = .next u ∧ OnlyChanges [.ttu] (tick t s) u ∧
        u.ttu = { s.ttu with lampTest := none, testLeft := 0, lamps := u.ttu.lamps } ∧
        (inRun s = true → ∀ l, LampFollows u l)) ∧
    ∀ (s : State) (t : Nat), Awake s → expired (instant t s) s.ttu.lampTest = false →
      exec (.lampTestEnd t) s = .next (tick t s)

/-- A SET TIME order taken while the line is not ALIVE sets the clock as R98 states, with the source ORDER (R187). That the
second begins at the instant of the set, off the grid of the 1 ms time base, is the model's choice (DESIGN CHOICE: log entry
38). -/
def Obligations.SetTimeOrder : Prop :=
  ∀ (s : State) (t : Nat) (k : Fin 8) (stamp : Byte) (day minute : BitVec 16) (second : Byte),
    OrderTaken t k stamp s → s.tlr.line ≠ .alive → minute.toNat ≤ 1439 → second.toNat ≤ 59 →
    ∃ u, exec (.setTime t k stamp day minute second) s = .next u ∧
      Landed u s (orderAddr k) ([stamp, 0x05] ++ le 2 day.toNat ++ le 2 minute.toNat ++ [second]) ∧
      OnlyChanges [.port, .discard, .host, .orders, .dtu, .journal] (tick t s) u ∧ OtherSlotsKept u s k ∧
      Answered u k stamp 0x00 0 ∧ ClockSet u s (instant t s) day.toNat minute.toNat second.toNat 1 ∧
      u.dtu = { s.dtu with
        drivers := u.dtu.drivers, day := u.dtu.day, minute := u.dtu.minute, second := u.dtu.second
        secondStart := u.dtu.secondStart, timeValid := u.dtu.timeValid, lastDay := u.dtu.lastDay
        lastMinute := u.dtu.lastMinute }

/-- TAKE SNAPSHOT (R188) and the snapshot timer (R118) place a SNAP request. A pending one covers it; it waits while the
store has work or may not start; and with nothing else to do the program of the present content starts at once, which arms
every waiting order (R150, R154, R155). That it passes a SETS that waits is DEDUCED (log entry 51). -/
def Obligations.SnapshotRequests : Prop :=
  (∀ (s : State) (t : Nat) (k : Fin 8) (stamp : Byte), OrderTaken t k stamp s →
      ∃ u, exec (.takeSnapshot t k stamp) s = .next u ∧ Landed u s (orderAddr k) [stamp, 0x06] ∧ Pended u s k ∧
        (s.nvs.snap.isSome = true →
          OnlyChanges [.port, .discard, .host, .orders] (tick t s) u ∧ OtherSlotsKept u s k ∧
            (u.orderSlot k).progress = .snapWaiting) ∧
        (s.nvs.snap = none → s.nvs.flight ≠ .none ∨ s.nvs.active = false ∨ s.psc.low = true →
          OnlyChanges [.port, .discard, .host, .orders, .nvs] (tick t s) u ∧ OtherSlotsKept u s k ∧
            (u.orderSlot k).progress = .snapWaiting ∧ u.nvs = { s.nvs with snap := some ⟨0, 0⟩ }) ∧
        (s.nvs.snap = none → s.nvs.flight = .none → s.nvs.active = true → s.psc.low = false → s.nvs.odo = none →
          s.nvs.cal = none → isDue s (snapSector s.nvs.snapPtr) = false →
          Memory.blank s.nvs.array (snapAddr s.nvs.snapPtr) 256 = true →
          OnlyChanges [.port, .discard, .host, .orders, .nvs] (tick t s) u ∧
            (∀ j : Fin 8, (u.orderSlot j).progress =
              if j = k ∨ (s.orderSlot j).progress = .snapWaiting then .snapArmed else (s.orderSlot j).progress) ∧
            u.nvs = { s.nvs with snapSeq := s.nvs.snapSeq + 1, flight := u.nvs.flight } ∧
            u.nvs.flight = .program
              { kind := .snap, slot := s.nvs.snapPtr, addr := snapAddr s.nvs.snapPtr, bytes := snapRecord s
                startedAt := instant t s, endsAt := instant t s + 3840, failures := 0, content := ⟨0, false⟩ })) ∧
    (∀ (s : State) (t : Nat), Awake s → inStandby s = true → expired (instant t s) s.dtu.snapTimer = true →
      ∃ u, exec (.snapshotTimerExpiry t) s = .next u ∧
        u.dtu = { s.dtu with snapTimer := some (instant t s + snapshotInterval s), profileDefaulted := !profileValid s } ∧
        (s.nvs.snap.isSome = true → OnlyChanges [.dtu] (tick t s) u) ∧
        (s.nvs.snap = none → s.nvs.flight ≠ .none ∨ s.nvs.active = false ∨ s.psc.low = true →
          OnlyChanges [.dtu, .nvs] (tick t s) u ∧ u.nvs = { s.nvs with snap := some ⟨0, 0⟩ }) ∧
        (s.nvs.snap = none → s.nvs.flight = .none → s.nvs.active = true → s.psc.low = false → s.nvs.odo = none →
          s.nvs.cal = none → isDue s (snapSector s.nvs.snapPtr) = false →
          Memory.blank s.nvs.array (snapAddr s.nvs.snapPtr) 256 = true →
          OnlyChanges [.dtu, .nvs, .orders] (tick t s) u ∧
            (∀ j : Fin 8, u.orderSlot j = { s.orderSlot j with progress :=
              if (s.orderSlot j).progress = .snapWaiting then .snapArmed else (s.orderSlot j).progress }) ∧
            u.nvs = { s.nvs with snapSeq := s.nvs.snapSeq + 1, flight := u.nvs.flight } ∧
            u.nvs.flight = .program
              { kind := .snap, slot := s.nvs.snapPtr, addr := snapAddr s.nvs.snapPtr, bytes := snapRecord s
                startedAt := instant t s, endsAt := instant t s + 3840, failures := 0, content := ⟨0, false⟩ })) ∧
    ∀ (s : State) (t : Nat), Awake s → inStandby s = false ∨ expired (instant t s) s.dtu.snapTimer = false →
      exec (.snapshotTimerExpiry t) s = .next (tick t s)

/-- SAVE SETTINGS (R189) places a SETS request: it waits while the store has work or may not start, and with nothing more
urgent pending the erase step of sector 0 starts at once (R153, R155). -/
def Obligations.SaveSettingsOrder : Prop :=
  ∀ (s : State) (t : Nat) (k : Fin 8) (stamp : Byte), OrderTaken t k stamp s → s.spd.moving = false →
    ¬InProgress s [.saving] → setsBusy s = false →
    ∃ u, exec (.saveSettings t k stamp) s = .next u ∧ Landed u s (orderAddr k) [stamp, 0x07] ∧ Pended u s k ∧
      (u.orderSlot k).progress = .saving ∧
      (s.nvs.flight ≠ .none ∨ s.nvs.active = false ∨ s.psc.low = true →
        OnlyChanges [.port, .discard, .host, .orders, .nvs] (tick t s) u ∧ OtherSlotsKept u s k ∧
          u.nvs = { s.nvs with sets := some ⟨0, 0⟩ }) ∧
      (s.nvs.flight = .none → s.nvs.active = true → s.psc.low = false → s.nvs.odo = none → s.nvs.cal = none →
        s.nvs.snap = none →
        OnlyChanges [.port, .discard, .host, .orders, .nvs] (tick t s) u ∧ OtherSlotsKept u s k ∧
          u.nvs = { s.nvs with flight := u.nvs.flight } ∧ u.nvs.flight = .erase
            { sector := 0, forSets := true, failures := 0, startedAt := instant t s, remaining := 40000 })

/-- CALIBRATE and LOCK CALIBRATION place a CAL request (R148, R190, R192), OPEN with the new constant or LOCKED with the one
in force. It waits while a program is in flight or the store may not start; its program goes to the calibration pointer's
slot when that is blank, and breaks into an erase, whose remaining time is kept (R156). That the record's sequence is the number
of its slot, also after a slot that was passed over, is DEDUCED from R147 (log entry 25). -/
def Obligations.CalibrationOrders : Prop :=
  ∀ (s : State) (t : Nat) (k : Fin 8) (stamp : Byte) (lock : Bool) (pulse : BitVec 16), OrderTaken t k stamp s →
    (lock = false → 2000 ≤ pulse.toNat ∧ pulse.toNat ≤ 60000 ∧ s.spd.moving = false) → s.nvs.locked = false →
    ¬InProgress s [.calibrating, .locking] → s.nvs.calPtr < 256 → calBusy s = false →
    ∃ u, exec (if lock then .lockCalibration t k stamp else .calibrate t k stamp pulse) s = .next u ∧
      Landed u s (orderAddr k) (if lock then [stamp, 0x0A] else [stamp, 0x08] ++ le 2 pulse.toNat) ∧
      Part.calibration.same s u ∧
      ((∃ p, programOf s.nvs.flight = some p) ∨ s.nvs.active = false ∨ s.psc.low = true →
        Pended u s k ∧ OtherSlotsKept u s k ∧ (u.orderSlot k).progress = (if lock then .locking else .calibrating) ∧
        OnlyChanges [.port, .discard, .host, .orders, .nvs] (tick t s) u ∧
          u.nvs = { s.nvs with cal := some (⟨if lock then s.nvs.pulse else pulse.toNat, lock⟩, ⟨0, 0⟩) }) ∧
      (s.nvs.active = true → s.psc.low = false → Memory.blank s.nvs.array (calAddr s.nvs.calPtr) 16 = true →
        (s.nvs.flight = .none ∧ s.nvs.odo = none) ∨ (∃ e, s.nvs.flight = .erase e) →
        Pended u s k ∧ OtherSlotsKept u s k ∧ (u.orderSlot k).progress = (if lock then .locking else .calibrating) ∧
        OnlyChanges [.port, .discard, .host, .orders, .nvs] (tick t s) u ∧
          u.nvs = { s.nvs with flight := u.nvs.flight } ∧
          programOf u.nvs.flight = some
            { kind := .cal, slot := s.nvs.calPtr, addr := calAddr s.nvs.calPtr
              bytes := calRecord ⟨if lock then s.nvs.pulse else pulse.toNat, lock⟩ s.nvs.calPtr
              startedAt := instant t s, endsAt := instant t s + 240, failures := 0
              content := ⟨if lock then s.nvs.pulse else pulse.toNat, lock⟩ } ∧
          (s.nvs.flight = .none → ∃ p, u.nvs.flight = .program p) ∧
          ∀ e, s.nvs.flight = .erase e → ∃ p, u.nvs.flight =
            .suspended { e with remaining := e.remaining - (instant t s - e.startedAt) } p)

/-- PRESET ODOMETER is taken as APPLYING (R191). PRESET_APPLY makes the odometer the new total when that is at least the live
odometer, keeps S and the trips, and places an ODO request, whose program at once carries the new total when the store is
free; below the live odometer the order completes BAD_ARGUMENT and nothing else changes (R19). -/
def Obligations.PresetOdometerOrder : Prop :=
  (∀ (s : State) (t : Nat) (k : Fin 8) (stamp : Byte) (total : BitVec 32), OrderTaken t k stamp s →
      s.spd.odometer ≤ total.toNat → total.toNat ≤ 999999999 → s.spd.moving = false → s.nvs.locked = false →
      ∃ u, exec (.presetOdometer t k stamp total) s = .next u ∧
        Landed u s (orderAddr k) ([stamp, 0x09] ++ le 4 total.toNat) ∧ Pended u s k ∧ OtherSlotsKept u s k ∧
        OnlyChanges [.port, .discard, .host, .orders] (tick t s) u ∧
        (u.orderSlot k).progress = .presetApplying total.toNat) ∧
    (∀ (s : State) (t total : Nat) (k : Fin 8), Awake s → (s.orderSlot k).progress = .presetApplying total →
      total < s.spd.odometer ∨ 999999999 < total →
      ∃ u, exec (.presetApply t k) s = .next u ∧ OnlyChanges [.orders, .journal] (tick t s) u ∧ OtherSlotsKept u s k ∧
        Answered u k (orderStamp s k) 0x04 1 ∧
        Recorded u s .orderDone
          ([u8 k.val, hostByte s (orderAddr k + 1), orderStamp s k, 0x04] ++ le 2 1)) ∧
    ∀ (s : State) (t total : Nat) (k : Fin 8), Awake s → (s.orderSlot k).progress = .presetApplying total →
      s.spd.odometer ≤ total → total ≤ 999999999 →
      ∃ u, exec (.presetApply t k) s = .next u ∧ u.spd = { s.spd with odometer := total } ∧
        (s.nvs.odo.isSome = true ∨ (∃ p, programOf s.nvs.flight = some p) ∨ s.nvs.active = false ∨ s.psc.low = true →
          OnlyChanges [.spd, .orders, .nvs] (tick t s) u ∧ OtherSlotsKept u s k ∧
            u.orderSlot k = { s.orderSlot k with progress := .presetWaiting } ∧
            u.nvs = { s.nvs with odo := u.nvs.odo } ∧ u.nvs.odo.isSome = true) ∧
        (s.nvs.odo = none → s.nvs.flight = .none → s.nvs.active = true → s.psc.low = false →
          isDue s (odoSector s.nvs.odoPtr) = false → Memory.blank s.nvs.array (odoAddr s.nvs.odoPtr) 8 = true →
          OnlyChanges [.spd, .orders, .nvs] (tick t s) u ∧
            u.orderSlot k = { s.orderSlot k with progress := .presetArmed } ∧
            u.nvs = { s.nvs with odoSeq := (s.nvs.odoSeq + 1) % 65536, flight := u.nvs.flight } ∧
            u.nvs.flight = .program
              { kind := .odo, slot := s.nvs.odoPtr, addr := odoAddr s.nvs.odoPtr
                bytes := odoRecord total s.nvs.odoSeq, startedAt := instant t s, endsAt := instant t s + 120
                failures := 0, content := ⟨0, false⟩ })

/-- An order that fails a check is answered in the event of its take with the result and the detail of the first check it
fails (R180, R183 to R192), has no other effect and posts nothing; an order code outside 01h to 0Ah is answered
UNKNOWN_ORDER. -/
def Obligations.OrdersAreRefused : Prop :=
  (∀ (s : State) (c : Instr), ∀ o, orderOf c = some o → OrderTaken o.1 o.2.1 o.2.2 s →
      ∀ r, refusal s c = some r →
      ∃ u, exec c s = .next u ∧ Answered u o.2.1 o.2.2 r.1 r.2 ∧ OtherSlotsKept u s o.2.1 ∧
        OnlyChanges [.port, .discard, .host, .orders] (tick o.1 s) u) ∧
    ∀ (s : State) (t : Nat) (k : Fin 8) (stamp code : Byte) (takes : List Nat), OrderTaken t k stamp s →
      code = 0 ∨ 0x0A < code.toNat →
      ∃ u, exec (.write t ⟨true, le 2 (orderAddr k) ++ [stamp, code], some 0, takes⟩) s = .next u ∧
        Landed u s (orderAddr k) [stamp, code] ∧ Answered u k stamp 0x05 0 ∧ OtherSlotsKept u s k ∧
        OnlyChanges [.port, .discard, .host, .orders] (tick t s) u

/-! ### Speed and distance -/

/-- Each accepted edge adds 100 to S and one counts at most one unit; over any run of k accepted edges from remainder S0 the
units counted are (S0 + 100 k) / P and the remainder ends at (S0 + 100 k) mod P, in every gate state; a rejected edge adds
nothing (R15). An accepted edge becomes the last accepted edge and restarts the stall timer (R5). -/
def Obligations.EdgesAddDistanceExactly : Prop :=
  (∀ (s : State) (t : Nat) (rising : Bool), Accepted t rising s →
      ∃ u, exec (.speedEdge t rising) s = .next u ∧ OnlyChanges [.spd, .gau, .ttu, .nvs, .orders, .journal] (tick t s) u ∧
        EdgeRun 1 s u ∧ u.spd.lastEdge = some (instant t s) ∧
        u.spd.stallTimer = some (instant t s + stallWindow s) ∧
        u.spd.remainder = (if s.nvs.pulse ≤ s.spd.remainder + 100 then s.spd.remainder + 100 - s.nvs.pulse
          else s.spd.remainder + 100) ∧
        u.spd.rejected = s.spd.rejected) ∧
    (∀ (s u : State) (k : Nat), EdgeRun k s u → 2000 ≤ s.nvs.pulse → s.spd.remainder < s.nvs.pulse →
      s.spd.odometer ≤ 999999999 → s.spd.tripA ≤ 9999999 → s.spd.tripB ≤ 9999999 →
      u.nvs.pulse = s.nvs.pulse ∧ u.spd.remainder = (s.spd.remainder + 100 * k) % s.nvs.pulse ∧
        u.spd.odometer = min 999999999 (s.spd.odometer + (s.spd.remainder + 100 * k) / s.nvs.pulse) ∧
        u.spd.tripA = (s.spd.tripA + (s.spd.remainder + 100 * k) / s.nvs.pulse) % 10000000 ∧
        u.spd.tripB = (s.spd.tripB + (s.spd.remainder + 100 * k) / s.nvs.pulse) % 10000000) ∧
    ∀ (s : State) (t : Nat) (rising : Bool), Awake s → gapFails (tick t s) = true →
      ∃ u, exec (.speedEdge t rising) s = .next u ∧ u.spd.remainder = s.spd.remainder ∧
        u.spd.odometer = s.spd.odometer ∧ u.spd.tripA = s.spd.tripA ∧ u.spd.tripB = s.spd.tripB

/-- A counted unit increments the odometer, which holds at 999,999,999, and both trips, which wrap from 9,999,999 to 0 and
count on while the odometer is held; a unit that takes it to a multiple of the record step places an ODO request (R17).
While the part is powered the live odometer never decreases, stays within its range, and only a unit, a preset at least the
live value or the end of LOADING sets it (R16). A reset, from its begin to its end, loses it (R193, R1). -/
def Obligations.OdometerLaw : Prop :=
  (∀ (s : State) (t : Nat) (rising : Bool), Accepted t rising s → s.nvs.pulse ≤ s.spd.remainder + 100 →
      s.spd.odometer ≤ 999999999 →
      ∃ u, exec (.speedEdge t rising) s = .next u ∧
        (s.spd.odometer < 999999999 → u.spd.odometer = s.spd.odometer + 1) ∧
        (s.spd.odometer = 999999999 → u.spd.odometer = 999999999) ∧
        (s.spd.tripA < 9999999 → u.spd.tripA = s.spd.tripA + 1) ∧ (s.spd.tripA = 9999999 → u.spd.tripA = 0) ∧
        (s.spd.tripB < 9999999 → u.spd.tripB = s.spd.tripB + 1) ∧ (s.spd.tripB = 9999999 → u.spd.tripB = 0) ∧
        ((s.spd.odometer + 1) % recordStep s ≠ 0 ∨ s.spd.odometer = 999999999 → u.nvs = s.nvs) ∧
        (s.spd.odometer < 999999999 → (s.spd.odometer + 1) % recordStep s = 0 →
          (s.nvs.odo.isSome = true ∨ s.psc.low = true ∨ (∃ p, s.nvs.flight = .program p) →
            u.nvs = { s.nvs with odo := u.nvs.odo } ∧ u.nvs.odo.isSome = true) ∧
          (s.nvs.odo = none → s.nvs.flight = .none → s.nvs.active = true → s.psc.low = false →
            isDue s (odoSector s.nvs.odoPtr) = false → Memory.blank s.nvs.array (odoAddr s.nvs.odoPtr) 8 = true →
            u.nvs.odo = none ∧ u.nvs.flight = .program
              { kind := .odo, slot := s.nvs.odoPtr, addr := odoAddr s.nvs.odoPtr
                bytes := odoRecord (s.spd.odometer + 1) s.nvs.odoSeq, startedAt := instant t s
                endsAt := instant t s + 120, failures := 0, content := ⟨0, false⟩ }))) ∧
    ∀ (s u : State) (c : Instr), exec c s = .next u → s.spd.odometer ≤ 999999999 →
      u.spd.odometer ≤ 999999999 ∧
        ((∀ t source, c ≠ .resetBegin t source) → (∀ t pins, c ≠ .reset t pins) →
          (∀ t order, c ≠ .loadingEnd t order) →
          s.spd.odometer ≤ u.spd.odometer ∧
            ((∀ t rising, c ≠ .speedEdge t rising) → (∀ t k, c ≠ .presetApply t k) →
              u.spd.odometer = s.spd.odometer))

/-- An edge that fails the minimum gap test counts as rejected, in total and for the open gate, each count saturating, and
does nothing else; a transition that does not qualify, or that falls outside RUN, does nothing at all (R4, R5). -/
def Obligations.RejectedEdgesOnlyCount : Prop :=
  (∀ (s : State) (t : Nat) (rising : Bool), Awake s → inRun s = true → edgeQualifies s rising = true →
      gapFails (tick t s) = true →
      ∃ u, exec (.speedEdge t rising) s = .next u ∧ OnlyChanges [.spd] (tick t s) u ∧
        u.spd = { s.spd with
          rejected := min 65535 (s.spd.rejected + 1)
          gate := s.spd.gate.map fun g => { g with rejected := min 65535 (g.rejected + 1) } }) ∧
    (∀ (s : State) (t : Nat) (rising : Bool), Awake s → inRun s = false ∨ edgeQualifies s rising = false →
      exec (.speedEdge t rising) s = .next (tick t s)) ∧
    ∀ (s : State) (t : Nat), gapFails (tick t s) = true ↔
      s.spd.stallTimer.isSome = true ∧ ∃ e, s.spd.lastEdge = some e ∧ instant t s < e + minGap s

/-- A gate that closes counts its closing edge, computes v = floor(360,000,000,000 n / (P Tsum)) clamped to 25,000, and
records n and Tsum whether v is published or held (R7); the clamped v is the one that is published in GATING and goes to the
jump test in RUNNING (R8), and the closing edge opens the next gate. The noise assertion and the offers to SPEED channels
follow (R9, R12). -/
def Obligations.GateCloseComputesTheSpeed : Prop :=
  ∀ (s : State) (t : Nat) (rising : Bool), Accepted t rising s → ∀ g, s.spd.gate = some g → g.n < 65535 →
    g.openedAt + gateTime s ≤ instant t s →
    ∃ u, exec (.speedEdge t rising) s = .next u ∧
      u.spd.lastN = g.n + 1 ∧ u.spd.lastTsum = instant t s - g.openedAt ∧ 1 ≤ u.spd.lastN ∧
      gateTime s ≤ u.spd.lastTsum ∧ 20000 ≤ u.spd.lastTsum ∧
      u.spd.gateState = .running ∧ u.spd.gate = some { openedAt := instant t s, n := 0, rejected := 0 } ∧
      (s.spd.gateState ≠ .running →
        u.spd.vPub = min 25000 (360000000000 * u.spd.lastN / (s.nvs.pulse * u.spd.lastTsum)) ∧ u.spd.hold = 0) ∧
      (s.spd.gateState = .running →
        (if 2 ≤ s.spd.hold ∨
            (min 25000 (360000000000 * u.spd.lastN / (s.nvs.pulse * u.spd.lastTsum)) ≤ s.spd.vPub + jumpLimit s ∧
              s.spd.vPub ≤ min 25000 (360000000000 * u.spd.lastN / (s.nvs.pulse * u.spd.lastTsum)) + jumpLimit s) then
          u.spd.vPub = min 25000 (360000000000 * u.spd.lastN / (s.nvs.pulse * u.spd.lastTsum)) ∧ u.spd.hold = 0
        else u.spd.vPub = s.spd.vPub ∧ u.spd.hold = s.spd.hold + 1)) ∧
      (8 ≤ g.rejected → u.spd.noise = true) ∧ (g.rejected = 0 → u.spd.noise = false) ∧
      (1 ≤ g.rejected → g.rejected ≤ 7 → u.spd.noise = s.spd.noise) ∧
      ∀ c : Fin 8, (u.channel c).x = if gaugeSource s c = .speed then u.spd.vPub else (s.channel c).x

/-- A speed update event in RUN decays the published speed in RUNNING (R10) and offers it to the SPEED channels (R28), then
evaluates the moving flag, whose changes DTU takes over (R13), and cause 40 (R14), and changes nothing else of SPD; outside
RUN it has no effect. That a decay whose bound lies above v_pub offers it too is DEDUCED (log entry 12). -/
def Obligations.SpeedUpdateDecaysAndJudges : Prop :=
  (∀ (s : State) (t : Nat), Awake s → inRun s = true →
      ∃ u, exec (.speedUpdate t) s = .next u ∧
        OnlyChanges [.spd, .gau, .ttu, .dtu, .journal] (tick t s) u ∧
        u.spd = { s.spd with
          vPub := u.spd.vPub, moving := u.spd.moving, confirmRun := u.spd.confirmRun, overspeed := u.spd.overspeed } ∧
        (s.spd.gateState ≠ .running → u.spd.vPub = s.spd.vPub) ∧
        (s.spd.gateState = .running → ∀ e, s.spd.lastEdge = some e →
          u.spd.vPub = if s.spd.lastTsum < (instant t s - e) * s.spd.lastN then
              min s.spd.vPub (360000000000 / (s.nvs.pulse * (instant t s - e)))
            else s.spd.vPub) ∧
        (s.spd.gateState = .running → ∀ e, s.spd.lastEdge = some e →
          s.spd.lastTsum < (instant t s - e) * s.spd.lastN →
          ∀ c : Fin 8, (u.channel c).x = if gaugeSource s c = .speed then u.spd.vPub else (s.channel c).x) ∧
        ((s.spd.moving = true ↔ 200 ≤ u.spd.vPub) → u.spd.moving = s.spd.moving ∧ u.spd.confirmRun = none) ∧
        (¬(s.spd.moving = true ↔ 200 ≤ u.spd.vPub) → s.spd.confirmRun = none →
          u.spd.moving = s.spd.moving ∧ u.spd.confirmRun = some (instant t s)) ∧
        (¬(s.spd.moving = true ↔ 200 ≤ u.spd.vPub) → ∀ start, s.spd.confirmRun = some start →
          (if start + motionConfirm s ≤ instant t s then
            u.spd.moving = !s.spd.moving ∧ u.spd.confirmRun = none ∧ u.dtu.moving = !s.spd.moving
          else u.spd.moving = s.spd.moving ∧ u.spd.confirmRun = some start)) ∧
        (overspeedThreshold s = 0 → u.spd.overspeed = false) ∧
        (overspeedThreshold s ≠ 0 → overspeedThreshold s ≤ u.spd.vPub → u.spd.overspeed = true) ∧
        (u.spd.vPub < overspeedThreshold s → u.spd.vPub + 200 < overspeedThreshold s ∨ u.spd.vPub = 0 →
          u.spd.overspeed = false) ∧
        (u.spd.vPub < overspeedThreshold s → overspeedThreshold s ≤ u.spd.vPub + 200 → u.spd.vPub ≠ 0 →
          u.spd.overspeed = s.spd.overspeed) ∧
        (s.spd.overspeed = false → u.spd.overspeed = true →
          (s.causeOf 40).state = .clear ∨ (s.causeOf 40).state = .held → (u.causeOf 40).state = .active)) ∧
    ∀ (s : State) (t : Nat), Awake s → inRun s = false → exec (.speedUpdate t) s = .next (tick t s)

/-- The stall timer's expiry discards the open gate, sets v_pub to 0 and the state to IDLE, and keeps the last closed gate,
the distance and the rejected count, and offers v_pub to the SPEED channels, in GATING and in RUNNING, whatever v_pub was
(R28); in IDLE it only stops the timer (R11). That a stall offers a v_pub that was 0 already is DEDUCED (log entry 12). -/
def Obligations.StallDiscardsTheGate : Prop :=
  (∀ (s : State) (t : Nat), Awake s → expired (instant t s) s.spd.stallTimer = true → s.spd.gateState ≠ .idle →
      ∃ u, exec (.stallTimerExpiry t) s = .next u ∧ OnlyChanges [.spd, .gau, .ttu, .journal] (tick t s) u ∧
        u.spd = { s.spd with stallTimer := none, gate := none, gateState := .idle, vPub := 0, hold := 0 } ∧
        (∀ c : Fin 8, gaugeSource s c = .speed → (u.channel c).x = 0) ∧
        ∀ c : Fin 8, gaugeSource s c ≠ .speed → (u.channel c).x = (s.channel c).x) ∧
    (∀ (s : State) (t : Nat), Awake s → expired (instant t s) s.spd.stallTimer = true → s.spd.gateState = .idle →
      ∃ u, exec (.stallTimerExpiry t) s = .next u ∧ OnlyChanges [.spd] (tick t s) u ∧
        u.spd = { s.spd with stallTimer := none }) ∧
    ∀ (s : State) (t : Nat), Awake s → expired (instant t s) s.spd.stallTimer = false →
      exec (.stallTimerExpiry t) s = .next (tick t s)

/-! ### Gauges -/

/-- Damping moves the target t toward the demand angle a by trunc((a - t) / 2^k), or by 1 when that is 0, within 0 to a_max
(R34): with k = 0 it equals a after one event, it neither passes a nor turns away from it, and it reaches a in a finite
number of events. In UNHOMED and FAULT the target is the demand angle (R33). -/
def Obligations.FilterEventDampsTheTarget : Prop :=
  (∀ (s : State) (t : Nat) (c : Fin 8), Awake s → inLoading s = false →
      ∃ u, exec (.filterEvent t) s = .next u ∧ OnlyChanges [.gau, .ttu, .journal] (tick t s) u ∧
        ((s.channel c).state = .unhomed ∨ (s.channel c).state = .fault →
          (u.channel c).target = (u.channel c).demand) ∧
        ((s.channel c).state ≠ .unhomed → (s.channel c).state ≠ .fault →
          ∀ a : Int, a = (u.channel c).demand → ∀ tgt : Int, tgt = (s.channel c).target →
            ∀ moved : Int, moved = tgt + Int.tdiv (a - tgt) (2 ^ dampingShift s c) →
            ((u.channel c).target : Int) = max 0 (min ((s.channel c).aMax : Int)
              (if moved = tgt then (if tgt < a then tgt + 1 else if a < tgt then tgt - 1 else tgt) else moved))) ∧
        ((s.channel c).state ≠ .unhomed → (s.channel c).state ≠ .fault →
          (u.channel c).demand ≤ (s.channel c).aMax → (s.channel c).target ≤ (s.channel c).aMax →
          (dampingShift s c = 0 → (u.channel c).target = (u.channel c).demand) ∧
            ((s.channel c).target ≤ (u.channel c).demand →
              (s.channel c).target ≤ (u.channel c).target ∧ (u.channel c).target ≤ (u.channel c).demand) ∧
            ((u.channel c).demand ≤ (s.channel c).target →
              (u.channel c).demand ≤ (u.channel c).target ∧ (u.channel c).target ≤ (s.channel c).target))) ∧
    ∀ (s u : State) (c : Fin 8) (a n : Nat), FilterRun c a n s u → Awake s → inLoading s = false →
      (s.channel c).state ≠ .unhomed → (s.channel c).state ≠ .fault → a ≤ (s.channel c).aMax →
      (s.channel c).target ≤ (s.channel c).aMax → a ≤ (s.channel c).target + n → (s.channel c).target ≤ a + n → n ≠ 0 →
      (u.channel c).target = a

/-- A filter event acts on the source setting that it reads (R27): a SPEED or OFF channel is in mode TRACK, fresh, with no
freshness timer and not STALE (R28; found so even where the source was the same before: log entry 42), and a change to HOST
takes the stored mode and value and starts freshness. It sets the demand angle by the first line of R33's table that applies: 0
with the source OFF, unchanged with the CALIBRATION flag or no a_max, a_0 in STALE, and by the mode otherwise. The table of R32
gives a_0 at and below x_0, a_{N-1} at and above x_{N-1}, and between two points the interpolated angle, rounded half away from
zero. The flag is set exactly when the table is not valid against a_max. The channel keeps the a_0 that it reads here, 0 without
a valid table, for DOWN_LEG (DEDUCED: log entries 7 and 20), and the mode and value of the last record it stored, and the source
that it found, as state of its own (DESIGN CHOICE: log entry 7). -/
def Obligations.FilterEventSetsTheDemandAngle : Prop :=
  ∀ (s : State) (t : Nat) (c : Fin 8), Awake s → inLoading s = false →
    ∃ u, exec (.filterEvent t) s = .next u ∧
      (u.channel c).defaulted = anyBad s c ∧ (u.channel c).source = gaugeSource s c ∧
      (gaugeSource s c ≠ .host → (u.channel c).mode = .track ∧ (u.channel c).fresh = true ∧
        (u.channel c).freshTimer = none ∧ (u.channel c).x = (s.channel c).x ∧
        (u.channel c).state = (if (s.channel c).state = .stale then .tracking else (s.channel c).state)) ∧
      (gaugeSource s c = .off → (u.channel c).warning = false) ∧
      (gaugeSource s c = .host → (u.channel c).state = (s.channel c).state ∧
        ((s.channel c).source = .host → (u.channel c).x = (s.channel c).x ∧ (u.channel c).mode = (s.channel c).mode ∧
          (u.channel c).fresh = (s.channel c).fresh ∧ (u.channel c).freshTimer = (s.channel c).freshTimer) ∧
        ((s.channel c).source ≠ .host → (u.channel c).x = (s.channel c).storedValue ∧
          (u.channel c).mode = (s.channel c).storedMode ∧ (u.channel c).fresh = true ∧
          (u.channel c).freshTimer = (if inRun s = true ∧ freshness s c ≠ 0 ∧ (s.channel c).storedMode ≠ .hold then
            some (instant t s + freshness s c) else none))) ∧
      (u.channel c).restAngle = (if (u.channel c).calibration = true ∨ (s.channel c).aMax = 0 then 0 else pointA s c 0) ∧
      ((s.channel c).aMax ≠ 0 → ((u.channel c).calibration = true ↔
        ¬(2 ≤ pointCount s c ∧ pointCount s c ≤ 8 ∧
          (∀ i, i < pointCount s c - 1 → pointX s c i < pointX s c (i + 1)) ∧
          ∀ i, i < pointCount s c → pointA s c i ≤ (s.channel c).aMax))) ∧
      (gaugeSource s c = .off → (u.channel c).demand = 0) ∧
      (gaugeSource s c ≠ .off → (s.channel c).aMax = 0 ∨ (u.channel c).calibration = true →
        (u.channel c).demand = (s.channel c).demand) ∧
      (gaugeSource s c ≠ .off → (s.channel c).aMax ≠ 0 → (u.channel c).calibration = false →
        ((u.channel c).state = .stale → (u.channel c).demand = pointA s c 0) ∧
        ((u.channel c).state ≠ .stale → (u.channel c).mode = .hold → (u.channel c).demand = (s.channel c).demand) ∧
        ((u.channel c).state ≠ .stale → (u.channel c).mode = .rest → (u.channel c).demand = pointA s c 0) ∧
        ((u.channel c).state ≠ .stale → (u.channel c).mode = .track →
          ((u.channel c).x ≤ pointX s c 0 → (u.channel c).demand = pointA s c 0) ∧
            (pointX s c (pointCount s c - 1) ≤ (u.channel c).x →
              (u.channel c).demand = pointA s c (pointCount s c - 1)) ∧
            ∀ i, i < pointCount s c - 1 → pointX s c i ≤ (u.channel c).x → (u.channel c).x < pointX s c (i + 1) →
              ∀ q : Int, q = ((u.channel c).demand : Int) - pointA s c i →
                q.natAbs = (2 * (((u.channel c).x - pointX s c i) *
                      ((pointA s c (i + 1) : Int) - pointA s c i).natAbs) + (pointX s c (i + 1) - pointX s c i)) /
                    (2 * (pointX s c (i + 1) - pointX s c i)) ∧
                  (pointA s c i ≤ pointA s c (i + 1) → 0 ≤ q) ∧ (pointA s c (i + 1) ≤ pointA s c i → q ≤ 0)))

/-- The step event under R36, with LOW clear and no silent coil: at d = 0 the needle stands; otherwise it moves
min(v', D) microsteps toward the motion target, where v' is the largest of v - 1, v, v + 1 within 0 to v_max with
v'(v' + 1)/2 ≤ D, or v - 1 when there is none, and v becomes v', or 0 on arrival. The motion target is t in TRACKING and
STALE, 0 in PARKING, a_max in SWEEP on UP_LEG, and on DOWN_LEG a_0 as the last filter event found it (R35). Arrival in PARKING
enters PARKED (R40), on UP_LEG turns to DOWN_LEG, and on DOWN_LEG enters STALE or TRACKING by fresh (R39); nothing else changes
the state. That a_0 is the one of the last filter event is DEDUCED (log entry 20). -/
def Obligations.StepEventFollowsTheProfile : Prop :=
  (∀ (s : State) (c : Fin 8),
    ((s.channel c).state = .tracking ∨ (s.channel c).state = .stale → motionTarget s c = (s.channel c).target) ∧
      ((s.channel c).state = .parking → motionTarget s c = 0) ∧
      ((s.channel c).state = .sweep → (s.channel c).leg = .upLeg → motionTarget s c = (s.channel c).aMax) ∧
      ((s.channel c).state = .sweep → (s.channel c).leg = .downLeg → (s.channel c).restAngle ≤ (s.channel c).aMax →
        motionTarget s c = (s.channel c).restAngle)) ∧
  ∀ (s : State) (t : Nat) (c : Fin 8) (silent : List (Fin 8)), Awake s → inLoading s = false → s.psc.low = false →
    stallSense s c = false ∨ c ∉ silent →
    (s.channel c).state = .tracking ∨ (s.channel c).state = .stale ∨ (s.channel c).state = .sweep ∨
      (s.channel c).state = .parking →
    (s.channel c).vel = 0 ∨ ((s.channel c).dir = .up ∧ (s.channel c).pos < motionTarget s c) ∨
      ((s.channel c).dir = .down ∧ motionTarget s c < (s.channel c).pos) ∨ (s.channel c).pos = motionTarget s c →
    ∃ u, exec (.stepEvent t silent) s = .next u ∧
      ((s.channel c).pos = motionTarget s c → (u.channel c).pos = (s.channel c).pos ∧ (u.channel c).vel = 0) ∧
      ((s.channel c).pos ≠ motionTarget s c →
        ∃ w, (if ∃ x ∈ [(s.channel c).vel - 1, (s.channel c).vel, (s.channel c).vel + 1], x ≤ vMax s c ∧
                x * (x + 1) / 2 ≤ max ((s.channel c).pos - motionTarget s c) (motionTarget s c - (s.channel c).pos)
              then w ∈ [(s.channel c).vel - 1, (s.channel c).vel, (s.channel c).vel + 1] ∧ w ≤ vMax s c ∧
                w * (w + 1) / 2 ≤ max ((s.channel c).pos - motionTarget s c) (motionTarget s c - (s.channel c).pos) ∧
                ∀ x ∈ [(s.channel c).vel - 1, (s.channel c).vel, (s.channel c).vel + 1], x ≤ vMax s c →
                  x * (x + 1) / 2 ≤ max ((s.channel c).pos - motionTarget s c) (motionTarget s c - (s.channel c).pos) → x ≤ w
              else w = (s.channel c).vel - 1) ∧
          (if (s.channel c).pos < motionTarget s c then
            (u.channel c).dir = .up ∧ (u.channel c).pos = min ((s.channel c).pos + w) (motionTarget s c)
          else (u.channel c).dir = .down ∧ (u.channel c).pos = max ((s.channel c).pos - w) (motionTarget s c)) ∧
          (u.channel c).vel = if (u.channel c).pos = motionTarget s c then 0 else w) ∧
      ((s.channel c).state = .parking → (u.channel c).state =
        if (u.channel c).pos = motionTarget s c then .parked else .parking) ∧
      ((s.channel c).state = .sweep → (s.channel c).leg = .upLeg → (u.channel c).state = .sweep ∧
        (u.channel c).leg = if (u.channel c).pos = motionTarget s c then .downLeg else .upLeg) ∧
      ((s.channel c).state = .sweep → (s.channel c).leg = .downLeg → (u.channel c).leg = .downLeg ∧
        (u.channel c).state = if (u.channel c).pos = motionTarget s c then
          (if (s.channel c).fresh then .tracking else .stale) else .sweep) ∧
      ((s.channel c).state = .tracking ∨ (s.channel c).state = .stale → (u.channel c).state = (s.channel c).state)

/-- The step event under R37, with LOW clear and no silent coil: while the direction points away from the motion target the
needle slows by 1, within 0 to a_max, and turns only at v = 0. Under R36 and R37 together no step event carries a needle past
the motion target, and none carries it out of 0 to a_max.
While the LOW flag is set a step event sets the velocity and the missing run of every channel in motion to 0 and moves no
needle (R41, R49); in UNHOMED, PARKED and FAULT it has no effect (R35). The coils follow the position at (p mod 48) × 7.5°,
and carry no current in those three states (R26). -/
def Obligations.StepEventSlowsTurnsAndFreezes : Prop :=
  (∀ (s : State) (t : Nat) (c : Fin 8) (silent : List (Fin 8)), Awake s → inLoading s = false → s.psc.low = false →
      stallSense s c = false ∨ c ∉ silent →
      (s.channel c).state = .tracking ∨ (s.channel c).state = .stale ∨ (s.channel c).state = .sweep ∨
        (s.channel c).state = .parking →
      0 < (s.channel c).vel →
      ((s.channel c).dir = .down ∧ (s.channel c).pos < motionTarget s c) ∨
        ((s.channel c).dir = .up ∧ motionTarget s c < (s.channel c).pos) →
      (s.channel c).pos ≤ (s.channel c).aMax → motionTarget s c ≤ (s.channel c).aMax →
      ∃ u, exec (.stepEvent t silent) s = .next u ∧
        (u.channel c).pos = (if (s.channel c).dir = .down then (s.channel c).pos - ((s.channel c).vel - 1)
          else min ((s.channel c).pos + ((s.channel c).vel - 1)) (s.channel c).aMax) ∧
        ((s.channel c).dir = .down → (s.channel c).vel - 1 ≤ (s.channel c).pos →
          (u.channel c).vel = (s.channel c).vel - 1) ∧
        ((s.channel c).dir = .up → (s.channel c).pos + ((s.channel c).vel - 1) ≤ (s.channel c).aMax →
          (u.channel c).vel = (s.channel c).vel - 1) ∧
        ((s.channel c).dir = .down → (s.channel c).pos < (s.channel c).vel - 1 → (u.channel c).vel = 0) ∧
        ((s.channel c).dir = .up → (s.channel c).aMax < (s.channel c).pos + ((s.channel c).vel - 1) →
          (u.channel c).vel = 0) ∧
        ((u.channel c).vel ≠ 0 → (u.channel c).dir = (s.channel c).dir) ∧
        ((u.channel c).vel = 0 → (u.channel c).dir ≠ (s.channel c).dir)) ∧
    (∀ (s : State) (t : Nat) (c : Fin 8) (silent : List (Fin 8)), Awake s → inLoading s = false →
      stallSense s c = false ∨ c ∉ silent → (s.channel c).state ≠ .homing →
      ∃ u, exec (.stepEvent t silent) s = .next u ∧ OnlyChanges [.gau, .ttu, .journal] (tick t s) u ∧
        (u.channel c).aMax = (s.channel c).aMax ∧
        coilAngle u c = (if (u.channel c).state = .unhomed ∨ (u.channel c).state = .parked ∨ (u.channel c).state = .fault
          then none else some ((u.channel c).pos % 48)) ∧
        ((s.channel c).pos ≤ (s.channel c).aMax → motionTarget s c ≤ (s.channel c).aMax →
          ((s.channel c).pos ≤ motionTarget s c → (u.channel c).pos ≤ motionTarget s c) ∧
            (motionTarget s c ≤ (s.channel c).pos → motionTarget s c ≤ (u.channel c).pos) ∧
            (u.channel c).pos ≤ (s.channel c).aMax)) ∧
    ∀ (s : State) (t : Nat) (silent : List (Fin 8)), Awake s → inLoading s = false → s.psc.low = true →
      ∃ u, exec (.stepEvent t silent) s = .next u ∧ OnlyChanges [.gau] (tick t s) u ∧
        u.gau.faultAssert = s.gau.faultAssert ∧ u.gau.staleAssert = s.gau.staleAssert ∧
        ∀ c : Fin 8, u.channel c =
          if (s.channel c).state = .unhomed ∨ (s.channel c).state = .parked ∨ (s.channel c).state = .fault then
            s.channel c
          else { s.channel c with vel := 0, missing := 0 }

/-- A step event in HOMING drives the needle down by the homing speed, and the one at which the homing count reaches 0 ends
homing with the needle at rest on the stop; the channel goes on as the first matching line of R38's table says. That HOMING_END
is the step event of one channel whose count is at most the homing speed, and leaves the others, is the model's choice (DESIGN
CHOICE: log entry 28). -/
def Obligations.HomingRunsItsCountAndEnds : Prop :=
  (∀ (s : State) (t : Nat) (c : Fin 8), Awake s → homingEnds c s = true →
      ∃ u, exec (.homingEnd t c) s = .next u ∧ OnlyChanges [.gau, .ttu, .journal] (tick t s) u ∧
        (∀ d : Fin 8, d ≠ c → u.channel d = s.channel d) ∧
        u.channel c = { s.channel c with
          pos := 0, vel := 0, dir := .down, count := 0, missing := 0
          state := (if (s.channel c).parkDue then .parked else if (s.channel c).sweepDue then .sweep
            else if (s.channel c).fresh then .tracking else .stale)
          parkDue := false
          sweepDue := false
          leg := (if (s.channel c).parkDue = false ∧ (s.channel c).sweepDue = true then .upLeg else (s.channel c).leg)
          defaulted := (u.channel c).defaulted } ∧
        (inRun s = true → (u.gau.staleAssert = true ↔ ∃ d : Fin 8, (u.channel d).state = .stale))) ∧
    (∀ (s : State) (t : Nat) (c : Fin 8), Awake s → homingEnds c s = false →
      exec (.homingEnd t c) s = .next (tick t s)) ∧
    (∀ (s : State) (c : Fin 8), homingEnds c s = true ↔ inLoading s = false ∧ (s.channel c).state = .homing ∧
      s.psc.low = false ∧ (s.channel c).count ≤ homingSpeed s c) ∧
    ∀ (s : State) (t : Nat) (c : Fin 8) (silent : List (Fin 8)), Awake s → inLoading s = false → s.psc.low = false →
      stallSense s c = false ∨ c ∉ silent → (s.channel c).state = .homing → homingSpeed s c < (s.channel c).count →
      ∃ u, exec (.stepEvent t silent) s = .next u ∧
        u.channel c = { s.channel c with
          vel := homingSpeed s c, count := (s.channel c).count - homingSpeed s c
          pos := (s.channel c).pos - homingSpeed s c, missing := (u.channel c).missing
          defaulted := (u.channel c).defaulted }

/-- With stall sense on, a step event that chooses a velocity of at least 2 and whose move lands on or crosses a multiple of 12
takes one sample, also as the needle arrives; PRESENT sets the missing run to 0, and any other step event takes none, a homing
speed of 1 among them (R38, R41). The third MISSING in a row is a stall indication. It ends homing and parking at the stop (R38,
R40); in TRACKING, STALE and SWEEP it counts a stall and sends the channel to HOMING, or to FAULT within 60 s of the rehome time
(R42), and posts a GAUGE_STATE record of that entry (R46). The record bears the position at which the event found the needle
(DEDUCED: log entry 17). A move that the clamp of R37 shortens is not sampled, and a stall in SWEEP comes before an arrival
(DESIGN CHOICE: log entry 43). -/
def Obligations.StallIndications : Prop :=
  (∀ (s : State) (t : Nat) (c : Fin 8) (silent : List (Fin 8)) (w : Nat), Awake s → inLoading s = false →
      s.psc.low = false →
      (s.channel c).state = .tracking ∨ (s.channel c).state = .stale ∨ (s.channel c).state = .sweep ∨
        (s.channel c).state = .parking →
      Chooses s c w → ∀ v, exec (.stepEvent t []) s = .next v →
      stallSense s c = false ∨ c ∉ silent ∨ w < 2 ∨ ¬CrossesBoundary (s.channel c).pos (v.channel c).pos →
      ∃ u, exec (.stepEvent t silent) s = .next u ∧ u.channel c = v.channel c ∧
        (stallSense s c = false ∨ w < 2 ∨ ¬CrossesBoundary (s.channel c).pos (v.channel c).pos →
          (u.channel c).missing = if (u.channel c).vel = 0 then 0 else (s.channel c).missing) ∧
        (stallSense s c = true → 2 ≤ w → CrossesBoundary (s.channel c).pos (v.channel c).pos →
          (u.channel c).missing = 0)) ∧
  (∀ (s : State) (t : Nat) (c : Fin 8) (silent : List (Fin 8)) (w : Nat), Awake s → inLoading s = false →
      s.psc.low = false → stallSense s c = true → c ∈ silent →
      (s.channel c).state = .tracking ∨ (s.channel c).state = .stale ∨ (s.channel c).state = .sweep ∨
        (s.channel c).state = .parking →
      Chooses s c w → 2 ≤ w → (s.channel c).missing ≤ 2 → ∀ v, exec (.stepEvent t []) s = .next v →
      CrossesBoundary (s.channel c).pos (v.channel c).pos →
      (v.channel c).missing = 0 ∧
      ∃ u, exec (.stepEvent t silent) s = .next u ∧ OnlyChanges [.gau, .ttu, .journal] (tick t s) u ∧
        ((s.channel c).missing < 2 → u.channel c = { v.channel c with
          missing := if (v.channel c).vel = 0 then 0 else (s.channel c).missing + 1 }) ∧
        ((s.channel c).missing = 2 → (s.channel c).state = .parking →
          u.channel c = { v.channel c with state := .parked, pos := 0, vel := 0, missing := 0 }) ∧
        ((s.channel c).missing = 2 → (s.channel c).state ≠ .parking →
          (u.channel c).stallCount = min 255 ((s.channel c).stallCount + 1) ∧ (u.channel c).missing = 0 ∧
            (u.channel c).vel = 0 ∧
            (silent = [c] → Posted u s .gaugeState ([u8 c.val, u8 (u.channel c).state.code, u8 (u.channel c).stallCount,
              gaugeFlags (u.channel c)] ++ le 2 (v.channel c).pos)) ∧
            ((∀ r, (s.channel c).rehomeAt = some r → r + 60000000 ≤ instant t s) →
              (u.channel c).state = .homing ∧ (u.channel c).rehomeAt = some (instant t s) ∧
                (u.channel c).aMax = sweepLimit s c ∧ (u.channel c).count = sweepLimit s c + homeOverrun s c ∧
                (u.channel c).pos = sweepLimit s c + homeOverrun s c ∧ (u.channel c).dir = .down ∧
                (u.channel c).sweepDue = false) ∧
            (∀ r, (s.channel c).rehomeAt = some r → instant t s < r + 60000000 →
              (u.channel c).state = .fault ∧ (u.channel c).pos = (v.channel c).pos ∧
                (u.channel c).rehomeAt = some r ∧ (inRun s = true → u.gau.faultAssert = true)))) ∧
    (∀ (s : State) (t : Nat) (c : Fin 8) (silent : List (Fin 8)), Awake s → inLoading s = false → s.psc.low = false →
      stallSense s c = true → c ∈ silent → (s.channel c).state = .homing → (s.channel c).missing < 2 →
      2 ≤ homingSpeed s c → homingSpeed s c < (s.channel c).count →
      CrossesBoundary (s.channel c).pos ((s.channel c).pos - homingSpeed s c) →
      ∃ u, exec (.stepEvent t silent) s = .next u ∧ (u.channel c).state = .homing ∧
        (u.channel c).missing = (s.channel c).missing + 1 ∧
        (u.channel c).pos = (s.channel c).pos - homingSpeed s c) ∧
    (∀ (s : State) (t : Nat) (c : Fin 8) (silent : List (Fin 8)), Awake s → inLoading s = false → s.psc.low = false →
      (s.channel c).state = .homing → homingSpeed s c < (s.channel c).count → ∀ sampled : Prop,
      (sampled ↔ stallSense s c = true ∧ 2 ≤ homingSpeed s c ∧
        CrossesBoundary (s.channel c).pos ((s.channel c).pos - homingSpeed s c)) →
      (sampled → c ∉ silent) →
      ∃ u, exec (.stepEvent t silent) s = .next u ∧ (u.channel c).state = .homing ∧
        (u.channel c).vel = homingSpeed s c ∧ (u.channel c).count = (s.channel c).count - homingSpeed s c ∧
        (u.channel c).pos = (s.channel c).pos - homingSpeed s c ∧ (sampled → (u.channel c).missing = 0) ∧
        (¬sampled → (u.channel c).missing = (s.channel c).missing)) ∧
    ∀ (s : State) (t : Nat) (c : Fin 8) (silent : List (Fin 8)), Awake s → inLoading s = false → s.psc.low = false →
      stallSense s c = true → c ∈ silent → (s.channel c).state = .homing → (s.channel c).missing = 2 →
      2 ≤ homingSpeed s c → homingSpeed s c < (s.channel c).count →
      (∃ m, m ≤ (s.channel c).pos ∧ (s.channel c).pos - homingSpeed s c ≤ 12 * m ∧ 12 * m < (s.channel c).pos) →
      ∃ u, exec (.stepEvent t silent) s = .next u ∧ (u.channel c).pos = 0 ∧ (u.channel c).vel = 0 ∧
        (u.channel c).count = 0 ∧ (u.channel c).missing = 0 ∧ (u.channel c).dir = .down ∧
        (u.channel c).stallCount = (s.channel c).stallCount ∧
        (u.channel c).state = (if (s.channel c).parkDue then .parked else if (s.channel c).sweepDue then .sweep
          else if (s.channel c).fresh then .tracking else .stale)

/-- The expiry of a freshness timer stops the timer, and while the source is HOST it ends freshness; in TRACKING the channel
then enters STALE, and in RUN the stale assertion follows and raises cause 43 when it becomes set (R30, R45). A channel on
SPEED or OFF stays fresh and keeps its state (R28). That the source is the one of the last filter event is the model's choice
(DESIGN CHOICE: log entry 42). -/
def Obligations.FreshnessExpiry : Prop :=
  (∀ (s : State) (t : Nat) (c : Fin 8), Awake s → expired (instant t s) (s.channel c).freshTimer = true →
      (s.channel c).source ≠ .host →
      ∃ u, exec (.freshnessExpiry t c) s = .next u ∧ OnlyChanges [.gau] (tick t s) u ∧
        (∀ d : Fin 8, d ≠ c → u.channel d = s.channel d) ∧
        u.channel c = { s.channel c with fresh := true, freshTimer := none } ∧
        u.gau.faultAssert = s.gau.faultAssert ∧ u.gau.staleAssert = s.gau.staleAssert) ∧
    (∀ (s : State) (t : Nat) (c : Fin 8), Awake s → expired (instant t s) (s.channel c).freshTimer = true →
      (s.channel c).source = .host →
      ∃ u, exec (.freshnessExpiry t c) s = .next u ∧ OnlyChanges [.gau, .ttu, .journal] (tick t s) u ∧
        (∀ d : Fin 8, d ≠ c → u.channel d = s.channel d) ∧
        ((s.channel c).state = .tracking → u.channel c =
          { s.channel c with fresh := false, freshTimer := none, state := .stale, missing := 0 }) ∧
        ((s.channel c).state ≠ .tracking →
          u.channel c = { s.channel c with fresh := false, freshTimer := none } ∧ u.ttu = s.ttu) ∧
        ((s.channel c).state = .tracking → inRun s = true → u.gau.staleAssert = true ∧
          (s.gau.staleAssert = false → (s.causeOf 43).state = .clear ∨ (s.causeOf 43).state = .held →
            (u.causeOf 43).state = .active))) ∧
    ∀ (s : State) (t : Nat) (c : Fin 8), Awake s → expired (instant t s) (s.channel c).freshTimer = false →
      exec (.freshnessExpiry t c) s = .next (tick t s)


/-! ### Causes, lamps and the sounder -/

/-- A press or a release is a new level of the ACK button held for 30 ms. A press in RUN acknowledges the playing cause, or
every HELD cause while nothing plays, or nothing while a class-0 chime plays; a release does nothing more (R59). In LOADING
the ACK input takes no level (R51, DEDUCED: log entry 35). -/
def Obligations.AckButton : Prop :=
  (∀ (s : State) (t : Nat) (pressed : Bool), Awake s →
      ∃ u, exec (.ackInputChange t pressed) s = .next u ∧ OnlyChanges [.ttu] (tick t s) u ∧
        u.ttu = { s.ttu with
          ackRaw := pressed
          ackRun := if pressed = s.ttu.ack then none else some (s.ttu.ackRun.getD (instant t s)) }) ∧
    (∀ (s : State) (t : Nat), Awake s → inLoading s = false → s.ttu.ack = false → ∀ start, s.ttu.ackRun = some start →
      start + 30000 ≤ instant t s →
      ∃ u, exec (.ackPress t) s = .next u ∧ OnlyChanges [.ttu, .journal] (tick t s) u ∧ u.ttu.ack = true ∧
        u.ttu.ackRun = none ∧ u.ttu.ackRaw = s.ttu.ackRaw ∧
        (inRun s = false ∨ (∃ p, s.ttu.playing = some p ∧ p.request.cls = 0) →
          OnlyChanges [.ttu] (tick t s) u ∧ u.ttu = { s.ttu with ack := true, ackRun := none }) ∧
        (inRun s = true → ∀ p, s.ttu.playing = some p → p.request.cls ≠ 0 →
          (∀ n : Fin 53, u.causeOf n = if n = p.request.cause then
              { s.causeOf n with state := ackedState (s.causeOf n) } else s.causeOf n) ∧
            ((s.causeOf p.request.cause).state = .active → (s.causeOf p.request.cause).cls ≠ 0 →
              u.ttu.playing = none ∧ u.ttu.silence = some (instant t s + 100000) ∧
                u.ttu.queue = s.ttu.queue.filter (fun r => decide (r.cause ≠ p.request.cause)) ∧
                Recorded u s .causeChange [u8 p.request.cause.val, u8 2, u8 1,
                  u8 (s.causeOf p.request.cause).cls, (s.causeOf p.request.cause).argument, u8 2])) ∧
        (inRun s = true → s.ttu.playing = none →
          (∀ n : Fin 53, u.causeOf n = if (s.causeOf n).state = .held then { s.causeOf n with state := .clear }
            else s.causeOf n) ∧
            u.ttu.playing = none ∧ u.ttu.queue = s.ttu.queue ∧ u.ttu.silence = s.ttu.silence)) ∧
    (∀ (s : State) (t : Nat), Awake s → inLoading s = false → s.ttu.ack = true → ∀ start, s.ttu.ackRun = some start →
      start + 30000 ≤ instant t s →
      ∃ u, exec (.ackRelease t) s = .next u ∧ OnlyChanges [.ttu] (tick t s) u ∧
        u.ttu = { s.ttu with ack := false, ackRun := none }) ∧
    (∀ (s : State) (t : Nat), Awake s →
      inLoading s = true ∨ s.ttu.ack = true ∨ lasted (instant t s) 30000 s.ttu.ackRun = false →
      exec (.ackPress t) s = .next (tick t s)) ∧
    ∀ (s : State) (t : Nat), Awake s →
      inLoading s = true ∨ s.ttu.ack = false ∨ lasted (instant t s) 30000 s.ttu.ackRun = false →
      exec (.ackRelease t) s = .next (tick t s)

/-- A blink phase step in RUN advances the phase from 7 back to 0 and evaluates every lamp: each is lit, in its pattern and
with its output, as R63, R64, R68 and R69 call for, and a lamp that goes out sets its open run to 0 (R65). In STANDBY and
LOADING the phase stands. -/
def Obligations.BlinkPhaseStepEvaluatesTheLamps : Prop :=
  (∀ (s : State) (t : Nat), Awake s → inRun s = true →
      ∃ u, exec (.blinkPhaseStep t) s = .next u ∧ OnlyChanges [.ttu] (tick t s) u ∧
        u.ttu = { s.ttu with blink := (s.ttu.blink + 1) % 8, lamps := u.ttu.lamps } ∧
        ∀ l : Fin 48, LampFollows u l ∧ u.ttu.lamps[l].isOpen = s.ttu.lamps[l].isOpen ∧
          u.ttu.lamps[l].hold = s.ttu.lamps[l].hold ∧
          u.ttu.lamps[l].openRun =
            if s.ttu.lamps[l].lit = true ∧ u.ttu.lamps[l].lit = false then 0 else s.ttu.lamps[l].openRun) ∧
    ∀ (s : State) (t : Nat), Awake s → inRun s = false → exec (.blinkPhaseStep t) s = .next (tick t s)

/-- A lamp diagnostic sample in RUN reads each lamp whose output is on and whose OPEN flag is clear (R66). A GOOD reading sets
the open run to 0, and an OPEN one counts it up; at 3 the OPEN flag is set and the run is 0, a LAMP_FAULT record names the
lamp and its fallback, and the lamp fault assertion becomes set and raises cause 52 unless a lamp was OPEN before (R67). The
sample writes the remaining time of a lamp test in whole ms (R79), rounded down (DESIGN CHOICE: log entry 50). -/
def Obligations.LampDiagnosticSample : Prop :=
  (∀ (s : State) (t : Nat) (readings : List (Fin 48)), Awake s → inRun s = true →
      ∃ u, exec (.lampDiagnosticSample t readings) s = .next u ∧ OnlyChanges [.ttu, .journal] (tick t s) u ∧
        u.ttu.testLeft = (match s.ttu.lampTest with | some e => (e - instant t s) / 1000 | none => s.ttu.testLeft) ∧
        (∀ l : Fin 48, u.ttu.lamps[l].isOpen = (s.ttu.lamps[l].isOpen ||
          (s.ttu.lamps[l].output && decide (l ∈ readings) && decide (2 ≤ s.ttu.lamps[l].openRun)))) ∧
        ((∀ l ∈ readings, s.ttu.lamps[l].output = true → s.ttu.lamps[l].isOpen = true ∨ s.ttu.lamps[l].openRun < 2) →
          OnlyChanges [.ttu] (tick t s) u ∧
            u.ttu = { s.ttu with lamps := u.ttu.lamps, testLeft := u.ttu.testLeft } ∧
            ∀ l : Fin 48, u.ttu.lamps[l] =
              if s.ttu.lamps[l].output = true ∧ s.ttu.lamps[l].isOpen = false then
                { s.ttu.lamps[l] with openRun := if l ∈ readings then s.ttu.lamps[l].openRun + 1 else 0 }
              else s.ttu.lamps[l]) ∧
        (∀ l : Fin 48, s.ttu.lamps[l].isOpen = false → u.ttu.lamps[l].isOpen = true →
          u.ttu.lamps[l].openRun = 0 ∧ u.ttu.lampFault = true ∧
            (s.ttu.lampFault = false → (s.causeOf 52).state = .clear ∨ (s.causeOf 52).state = .held →
              (u.causeOf 52).state = .active) ∧
            ((∀ k : Fin 48, s.ttu.lamps[k].isOpen = false → u.ttu.lamps[k].isOpen = true → k = l) →
              (s.psc.power ≠ .proof → s.ttu.blink < 8 → ∀ k : Fin 48, LampFollows u k) ∧
              Recorded u s .lampFault [u8 l.val,
                (match lampFallback s l with | some k => u8 k.val | none => 0xFF),
                u8 ((List.finRange 48).countP fun k => u.ttu.lamps[k].isOpen)]))) ∧
    ∀ (s : State) (t : Nat) (readings : List (Fin 48)), Awake s → inRun s = false →
      exec (.lampDiagnosticSample t readings) s = .next (tick t s)

/-- The expiry of the silence timer frees the sounder, and the head of the queue starts in NORMAL with LOW clear (R73). A
period's end goes on to the next period, each on-period after an off-period unless the off time is 0; the last repeat's
on-period ends the chime, whose request is gone, and the silence timer starts (R71, R75). The sounder carries tone 1 and, where
it is present, tone 2 in every second on-period, as a square wave of period 2 × div × (N + 1) µs, and is low otherwise (R70);
every tone a chime latches has a div of 1, 2, 4 or 8, and a div code above 3 puts tone 1 at div 2 and N 124 (R71). -/
def Obligations.SounderTimers : Prop :=
  (∀ (s : State) (t : Nat), Awake s → expired (instant t s) s.ttu.silence = true → s.ttu.playing = none →
      ∃ u, exec (.silenceTimerExpiry t) s = .next u ∧ OnlyChanges [.ttu] (tick t s) u ∧
        (s.ttu.queue = [] ∨ s.psc.power ≠ .normal ∨ s.psc.low = true → u.ttu = { s.ttu with silence := none }) ∧
        (s.psc.power = .normal → s.psc.low = false → ∀ q qs, s.ttu.queue = q :: qs →
          u.ttu = { s.ttu with silence := none, queue := qs, playing := u.ttu.playing } ∧
            sounderTone u = some (chimePattern s q.pattern).tone1 ∧
            u.ttu.playing = some { request := q, pattern := chimePattern s q.pattern, onCount := 1, isOn := true
                                   endsAt := instant t s + 10000 * (chimePattern s q.pattern).onTime })) ∧
    (∀ (s : State) (t : Nat), Awake s → expired (instant t s) s.ttu.silence = false →
      exec (.silenceTimerExpiry t) s = .next (tick t s)) ∧
    (∀ (s : State) (t : Nat), Awake s → ∀ p, s.ttu.playing = some p → p.endsAt ≤ instant t s →
      ∃ u, exec (.chimePeriodEnd t) s = .next u ∧ OnlyChanges [.ttu] (tick t s) u ∧
        u.ttu = { s.ttu with playing := u.ttu.playing, silence := u.ttu.silence } ∧
        (p.isOn = true → p.pattern.repeats ≠ 0 → p.pattern.repeats ≤ p.onCount →
          u.ttu.playing = none ∧ sounderTone u = none ∧ u.ttu.silence = some (instant t s + 100000)) ∧
        (p.isOn = true → p.pattern.repeats = 0 ∨ p.onCount < p.pattern.repeats → p.pattern.offTime ≠ 0 →
          u.ttu.silence = s.ttu.silence ∧ sounderTone u = none ∧
            u.ttu.playing = some { p with isOn := false, endsAt := instant t s + 10000 * p.pattern.offTime }) ∧
        (p.isOn = false ∨ (p.pattern.offTime = 0 ∧ (p.pattern.repeats = 0 ∨ p.onCount < p.pattern.repeats)) →
          u.ttu.silence = s.ttu.silence ∧
            sounderTone u = some (if p.onCount % 2 = 1 then p.pattern.tone2.getD p.pattern.tone1 else p.pattern.tone1) ∧
            u.ttu.playing =
              some { p with isOn := true, onCount := p.onCount + 1, endsAt := instant t s + 10000 * p.pattern.onTime })) ∧
    (∀ (s : State) (t : Nat), Awake s → (∀ p, s.ttu.playing = some p → instant t s < p.endsAt) →
      exec (.chimePeriodEnd t) s = .next (tick t s)) ∧
    ∀ (s : State) (i : Nat), (chimePattern s i).onTime ≠ 0 ∧ (chimePattern s i).onTime ≤ 255 ∧
      (chimePattern s i).offTime ≤ 255 ∧ (chimePattern s i).repeats ≤ 15 ∧
      (∀ x : Tone, x = (chimePattern s i).tone1 ∨ (chimePattern s i).tone2 = some x →
        x.div ∈ [1, 2, 4, 8] ∧ x.n ≤ 255 ∧ x.period = 2 * x.div * (x.n + 1)) ∧
      (chimePattern s i).tone1 = (if (hostByte s (0x748 + 9 * i)).toNat ≤ 3 then
        ⟨2 ^ (hostByte s (0x748 + 9 * i)).toNat, (hostByte s (0x749 + 9 * i)).toNat⟩ else ⟨2, 124⟩)

/-- The chime request of a host cause that enters ACTIVE with chime enable on takes its place by class and arrival; a
seventeenth request is removed and its cause's chime-dropped flag set (R72). On a free sounder with an empty queue the
request plays at once (R73). A strictly more urgent class than the playing chime's stops it, returns its request to the queue
and starts the silence timer (R74). -/
def Obligations.ChimeRequestsQueueAndPreempt : Prop :=
  ∀ (s : State) (t : Nat) (n : Fin 32) (stamp tag argument : Byte),
    Awake s → LinkFree s → MemoriesCanonical s → stamp ≠ hostByte s (0x100 + 4 * n.val) → inRun s = true →
    (s.causeOf (hostCause n)).state = .clear ∨ (s.causeOf (hostCause n)).state = .held →
    causeChimeOn s (hostCause n) = true →
    ∀ r : Request, r = { cause := hostCause n, cls := urgencyClass s (tag.toNat % 8), arrival := s.ttu.arrival
                         pattern := causeChime s (hostCause n) } →
    ∃ u, exec (.hostCauseTake t n stamp 1 tag argument) s = .next u ∧
      u.ttu.arrival = (s.ttu.arrival + 1) % 4294967296 ∧
      (sounderFree s = true → s.ttu.queue = [] →
        u.ttu.queue = [] ∧ u.ttu.silence = none ∧ (u.causeOf (hostCause n)).dropped = false ∧
          u.ttu.playing = some { request := r, pattern := chimePattern s r.pattern, onCount := 1, isOn := true
                                 endsAt := instant t s + 10000 * (chimePattern s r.pattern).onTime }) ∧
      (sounderFree s = false → (∀ p, s.ttu.playing = some p → p.request.cls ≤ r.cls) →
        u.ttu.playing = s.ttu.playing ∧ u.ttu.silence = s.ttu.silence ∧
          ∃ k, k ≤ s.ttu.queue.length ∧
            (∀ q ∈ s.ttu.queue.take k, standsBefore r q = false) ∧
            (∀ q, s.ttu.queue[k]? = some q → standsBefore r q = true) ∧
            u.ttu.queue = (s.ttu.queue.take k ++ r :: s.ttu.queue.drop k).take 16 ∧
            ∀ m : Fin 53, (u.causeOf m).dropped =
              if ((s.ttu.queue.take k ++ r :: s.ttu.queue.drop k)[16]?).map Request.cause = some m then true
              else if m = hostCause n then false else (s.causeOf m).dropped) ∧
      (∀ p, s.ttu.playing = some p → r.cls < p.request.cls → s.ttu.queue.length ≤ 14 →
        u.ttu.playing = none ∧ u.ttu.silence = some (instant t s + 100000) ∧
          u.ttu.queue.length = s.ttu.queue.length + 2 ∧
          r ∈ u.ttu.queue ∧ p.request ∈ u.ttu.queue ∧ ∀ q ∈ s.ttu.queue, q ∈ u.ttu.queue)

/-! ### The tachograph line -/

/-- Each completed byte moves the receive state as R82's table states, with the running sum kept modulo 256, and restarts the
byte gap timer, which the CHECK byte stops. A stop-bit error discards the byte and the frame, and the receiver then waits for
an idle line (R81); so does the expiry of the byte gap timer discard the frame (R83). -/
def Obligations.BytesAssembleFrames : Prop :=
  (∀ (s : State) (t : Nat) (b : Byte), Awake s → listening s = true →
      ∃ u, exec (.byteCompletion t b true) s = .next u ∧
        (s.tlr.rx = .hunt → b ≠ 0x96 → u = tick t s) ∧
        (s.tlr.rx = .hunt → b = 0x96 → OnlyChanges [.tlr] (tick t s) u ∧ u.tlr = { s.tlr with
          rx := .type, frameType := 0, len := 0, payload := [], count := 0, sum := 0
          gapTimer := some (instant t s + 10000) }) ∧
        (s.tlr.rx = .type → OnlyChanges [.tlr] (tick t s) u ∧ u.tlr = { s.tlr with
          rx := .length, frameType := b, sum := (s.tlr.sum + b.toNat) % 256
          gapTimer := some (instant t s + 10000) }) ∧
        (s.tlr.rx = .length → OnlyChanges [.tlr] (tick t s) u ∧ u.tlr = { s.tlr with
          rx := if b.toNat = 0 then .check else .payload
          len := b, sum := (s.tlr.sum + b.toNat) % 256, gapTimer := some (instant t s + 10000) }) ∧
        (s.tlr.rx = .payload → s.tlr.count < s.tlr.len.toNat → OnlyChanges [.tlr] (tick t s) u ∧ u.tlr = { s.tlr with
          rx := if s.tlr.count + 1 = s.tlr.len.toNat then .check else .payload
          payload := if s.tlr.payload.length < 14 then s.tlr.payload ++ [b] else s.tlr.payload
          count := s.tlr.count + 1, sum := (s.tlr.sum + b.toNat) % 256, gapTimer := some (instant t s + 10000) }) ∧
        (s.tlr.rx = .check → u.tlr.rx = .hunt ∧ u.tlr.payload = [] ∧ u.tlr.count = 0 ∧ u.tlr.sum = 0 ∧
          u.tlr.gapTimer = none)) ∧
    (∀ (s : State) (t : Nat) (b : Byte), Awake s → listening s = true →
      ∃ u, exec (.byteCompletion t b false) s = .next u ∧ OnlyChanges [.tlr] (tick t s) u ∧
        u.tlr = { s.tlr with
          rx := .hunt, frameType := 0, len := 0, payload := [], count := 0, sum := 0, gapTimer := none
          waitIdle := true }) ∧
    (∀ (s : State) (t : Nat) (b : Byte) (high : Bool), Awake s → inLoading s = true ∨ s.tlr.waitIdle = true →
      exec (.byteCompletion t b high) s = .next (tick t s)) ∧
    (∀ (s : State) (t : Nat), Awake s →
      ∃ u, exec (.lineIdleAfterStopBitError t) s = .next u ∧ OnlyChanges [.tlr] (tick t s) u ∧
        u.tlr = { s.tlr with waitIdle := false }) ∧
    (∀ (s : State) (t : Nat), Awake s → expired (instant t s) s.tlr.gapTimer = true →
      ∃ u, exec (.byteGapExpiry t) s = .next u ∧ OnlyChanges [.tlr] (tick t s) u ∧
        u.tlr = { s.tlr with
          rx := .hunt, frameType := 0, len := 0, payload := [], count := 0, sum := 0, gapTimer := none }) ∧
    ∀ (s : State) (t : Nat), Awake s → expired (instant t s) s.tlr.gapTimer = false →
      exec (.byteGapExpiry t) s = .next (tick t s)

/-- At the CHECK byte the frame is judged by R84's four tests in their order: the sum, the type, the length, the fields. A
frame that fails counts one line error, saturating, which the mirror shows, posts a LINE_ERROR record with the first failing
test and leaves the line alone; one that passes all four acts as the row of its type does. That the rows of the four frames are
the completion of a frame's CHECK byte is the model's choice (DESIGN CHOICE: log entry 28). -/
def Obligations.FramesAreJudged : Prop :=
  (∀ (s : State) (t : Nat) (b : Byte), Awake s → listening s = true → s.tlr.rx = .check → ∀ reason : Byte,
      ((s.tlr.sum + b.toNat) % 256 ≠ 0 ∧ reason = 0) ∨
        ((s.tlr.sum + b.toNat) % 256 = 0 ∧ s.tlr.frameType ∉ [0x10, 0x11, 0x12, 0x13] ∧ reason = 1) ∨
        ((s.tlr.sum + b.toNat) % 256 = 0 ∧ s.tlr.frameType ∈ [0x10, 0x11, 0x12, 0x13] ∧
          (s.tlr.frameType, s.tlr.len.toNat) ∉ [((0x10 : Byte), 5), (0x11, 4), (0x12, 14), (0x13, 3)] ∧ reason = 2) ∨
        ((s.tlr.sum + b.toNat) % 256 = 0 ∧
          (s.tlr.frameType, s.tlr.len.toNat) ∈ [((0x10 : Byte), 5), (0x11, 4), (0x12, 14), (0x13, 3)] ∧
          fieldsInRange s.tlr.frameType s.tlr.payload = false ∧ reason = 3) →
      ∃ u, exec (.byteCompletion t b true) s = .next u ∧ OnlyChanges [.tlr, .journal] (tick t s) u ∧
        u.tlr = { s.tlr with
          rx := .hunt, frameType := 0, len := 0, payload := [], count := 0, sum := 0, gapTimer := none
          errors := min 65535 (s.tlr.errors + 1) } ∧
        exchangeByte u 0xE82 = u8 u.tlr.errors ∧ exchangeByte u 0xE83 = u8 (u.tlr.errors / 256) ∧
        Recorded u s .lineError ([reason, s.tlr.frameType, s.tlr.len] ++ le 2 (min 65535 (s.tlr.errors + 1))) ∧
        Handed u s .lineError ([reason, s.tlr.frameType, s.tlr.len] ++ le 2 (min 65535 (s.tlr.errors + 1)))) ∧
    (∀ (s : State) (t : Nat) (b second : Byte) (day minute : BitVec 16), Awake s → s.tlr.rx = .check →
      (s.tlr.sum + b.toNat) % 256 = 0 → s.tlr.frameType = 0x10 → s.tlr.len = 5 →
      s.tlr.payload = le 2 day.toNat ++ le 2 minute.toNat ++ [second] →
      exec (.byteCompletion t b true) s = exec (.timeFrame t day minute second) s ∧
        (fieldsInRange 0x10 s.tlr.payload = true ↔ minute.toNat ≤ 1439 ∧ second.toNat ≤ 59)) ∧
    (∀ (s : State) (t : Nat) (b slot activity : Byte) (minute : BitVec 16), Awake s → s.tlr.rx = .check →
      (s.tlr.sum + b.toNat) % 256 = 0 → s.tlr.frameType = 0x11 → s.tlr.len = 4 →
      s.tlr.payload = [slot, activity] ++ le 2 minute.toNat →
      exec (.byteCompletion t b true) s = exec (.activityFrame t slot activity minute) s ∧
        (fieldsInRange 0x11 s.tlr.payload = true ↔
          1 ≤ slot.toNat ∧ slot.toNat ≤ 2 ∧ activity.toNat ≤ 3 ∧ minute.toNat ≤ 1439)) ∧
    (∀ (s : State) (t : Nat) (b : Byte) (f : CardFields), Awake s → s.tlr.rx = .check →
      (s.tlr.sum + b.toNat) % 256 = 0 → s.tlr.frameType = 0x12 → s.tlr.len = 14 →
      s.tlr.payload = [f.slot, f.event] ++ le 4 f.holder.toNat ++ le 2 f.continuous.toNat ++ le 2 f.daily.toNat ++
        le 2 f.weekly.toNat ++ [f.extensions, f.breakState] →
      exec (.byteCompletion t b true) s = exec (.cardFrame t f) s ∧
        (fieldsInRange 0x12 s.tlr.payload = true ↔ 1 ≤ f.slot.toNat ∧ f.slot.toNat ≤ 2 ∧ f.event.toNat ≤ 1 ∧
          (f.event.toNat = 1 → f.breakState.toNat ≤ 1))) ∧
    ∀ (s : State) (t : Nat) (b a1 a2 flags : Byte), Awake s → s.tlr.rx = .check →
      (s.tlr.sum + b.toNat) % 256 = 0 → s.tlr.frameType = 0x13 → s.tlr.len = 3 → s.tlr.payload = [a1, a2, flags] →
      exec (.byteCompletion t b true) s = exec (.presenceFrame t a1 a2 flags) s ∧
        (fieldsInRange 0x13 s.tlr.payload = true ↔ a1.toNat ≤ 3 ∧ a2.toNat ≤ 3)

/-- A valid frame sets the last valid frame and the reference instant, makes the line ALIVE, which DTU learns and which clears
cause 44 of a LOST line, reaches DTU, restarts the line timer with the timeout of the power state and zeroes the mirror's
time (R89, R90, R92). A TIME frame sets the clock whenever it arrives (R85, R98). Where a clause has the laws of the
assertions (AssertionLaw), of the line (LineLaw) or of the chimes (ChimeLaw) as a premise, every step keeps them (O57, O59).
The model's choices: the LINE_STATE record stands ahead of the CAUSE_CHANGE of cause 44 (DEDUCED: log entry 13), a row that
names a frame is the whole frame that ends at that instant (DESIGN CHOICE: log entry 28), and the second of a set clock begins at
that instant, off the grid of the 1 ms time base (DESIGN CHOICE: log entry 38). -/
def Obligations.ValidFramesKeepTheLineAlive : Prop :=
  (∀ (s : State) (c : Instr), ∀ o, frameOf c = some o → Awake s → listening s = true → c.wf = true →
      ∃ u, exec c s = .next u ∧ OnlyChanges [.tlr, .dtu, .ttu, .journal] (tick o.1 s) u ∧
        u.tlr = { s.tlr with
          rx := .hunt, frameType := 0, len := 0, payload := [], count := 0, sum := 0, gapTimer := none
          line := .alive, lastFrame := some (instant o.1 s, o.2), reference := instant o.1 s
          lineTimer := some (instant o.1 s + lineTimeout s), mirrorTime := 0
          lostAssert := (if s.tlr.line = .alive then s.tlr.lostAssert else false) } ∧
        (s.tlr.line ≠ .alive → u.dtu.line = .alive ∧
          (s.dtu.moving = false → Resolved s → AssertionLaw s →
            Recorded u s .lineState ([u8 1, u8 s.tlr.line.code, u8 0] ++ le 2 0))) ∧
        (s.tlr.line ≠ .alive → s.tlr.lostAssert = true → inRun s = true →
          u.causeOf 44 = { s.causeOf 44 with state := clearedState s 44, dropped := (u.causeOf 44).dropped } ∧
            (Resolved s → AssertionLaw s → ChimeLaw s → (u.causeOf 44).dropped = (s.causeOf 44).dropped)) ∧
        (s.tlr.line = .alive → u.dtu.line = s.dtu.line ∧
          (ChimeLaw s → LineLaw s → u.causeOf 44 = s.causeOf 44))) ∧
    (∀ (s : State) (t : Nat) (day minute : BitVec 16) (second : Byte), Awake s → listening s = true →
      minute.toNat ≤ 1439 → second.toNat ≤ 59 →
      ∃ u, exec (.timeFrame t day minute second) s = .next u ∧ u.dtu.day = day.toNat ∧ u.dtu.minute = minute.toNat ∧
        u.dtu.second = second.toNat ∧ u.dtu.secondStart = instant t s ∧ u.dtu.timeValid = true ∧
        (s.tlr.line = .alive → OnlyChanges [.tlr, .dtu, .journal] (tick t s) u ∧
          ClockSet u s (instant t s) day.toNat minute.toNat second.toNat 0)) ∧
    (∀ s : State, lineTimeout s = 1000000 *
      (if inStandby s then
        (if profileValid s = true ∧ 10 ≤ host16 s 0x809 ∧ host16 s 0x809 ≤ 600 then host16 s 0x809 else 120)
      else if profileValid s = true ∧ 1 ≤ (hostByte s 0x808).toNat ∧ (hostByte s 0x808).toNat ≤ 60 then
        (hostByte s 0x808).toNat else 5)) ∧
    ∀ (s : State) (c : Instr), ∀ o, frameOf c = some o → Awake s → inLoading s = true ∨ s.tlr.waitIdle = true →
      exec c s = .next (tick o.1 s)

/-- The line timer's expiry makes the line LOST and stops the timer (R90): DTU's reports are cleared and the activities
resolved (R113), no account changes, in RUN cause 44 is raised, and a LINE_STATE record carries the new and the old state, the
reason TIMEOUT and the time since the last valid frame (R92). The 100 ms update writes the time since the last
valid frame into the mirror in every power state after LOADING (R94). -/
def Obligations.LineTimerAndMirror : Prop :=
  (∀ (s : State) (t : Nat), Awake s → expired (instant t s) s.tlr.lineTimer = true →
      ∃ u, exec (.lineTimerExpiry t) s = .next u ∧ OnlyChanges [.tlr, .dtu, .ttu, .journal] (tick t s) u ∧
        u.tlr = { s.tlr with line := .lost, lineTimer := none, lostAssert := inRun s } ∧ u.dtu.line = .lost ∧
        (∀ i : Fin 2, (u.driver i).report = none ∧ AccountKept u s i ∧ (u.driver i).present = (s.driver i).present) ∧
        Resolved u ∧ u.dtu.moving = s.dtu.moving ∧
        Posted u s .lineState ([u8 2, u8 s.tlr.line.code, u8 1] ++ le 2 (match s.tlr.lastFrame with
          | some f => min 65535 ((instant t s - f.1) / 100000)
          | none => 65535)) ∧
        (s.tlr.lostAssert = false → inRun s = true →
          (s.causeOf 44).state = .clear ∨ (s.causeOf 44).state = .held →
          (u.causeOf 44).state = .active ∧ (u.causeOf 44).argument = 0)) ∧
    (∀ (s : State) (t : Nat), Awake s → expired (instant t s) s.tlr.lineTimer = false →
      exec (.lineTimerExpiry t) s = .next (tick t s)) ∧
    (∀ (s : State) (t : Nat), Awake s → s.psc.power ≠ .loading →
      ∃ u, exec (.lineMirrorUpdate t) s = .next u ∧ OnlyChanges [.tlr] (tick t s) u ∧
        u.tlr = { s.tlr with mirrorTime := u.tlr.mirrorTime } ∧
        (s.tlr.lastFrame = none → u.tlr.mirrorTime = 65535) ∧
        (∀ f, s.tlr.lastFrame = some f → u.tlr.mirrorTime = min 65535 ((instant t s - f.1) / 100000)) ∧
        exchangeByte u 0xE84 = u8 u.tlr.mirrorTime ∧ exchangeByte u 0xE85 = u8 (u.tlr.mirrorTime / 256)) ∧
    ∀ (s : State) (t : Nat), Awake s → s.psc.power = .loading → exec (.lineMirrorUpdate t) s = .next (tick t s)

/-! ### Driver time -/

/-- An ACTIVITY frame sets the named slot's report with the source TACHO, and a PRESENCE frame the card states and the reports
that it changes, with the source PRESENCE, and posts a CARD record of each card state that it changes (R109, R110). The
resolution rule then decides both activities (R111); no counter changes. On a live line a slot's change starts one new log
entry, dated by the frame's minute stamp or by the time of day, and is posted (R110, R115, R116). A crew conflict that begins,
and the first motion conflict of a moving period, are posted as MOTION_CONFLICT with the two bases, the moving flag and the line
state, and flag the newest log entry of slot 2 or slot 1; nothing else is posted as one (R112). After a run of the rule
assertions 45 to 49 stand right, and in RUN their causes follow (R106, R114). The model's choices: a source-only change bears
the frame's stamp (DEDUCED: log entry 39), a PRESENCE frame runs the rule once (DESIGN CHOICE: log entry 40), and the bases are
those of R111's first step (DEDUCED: log entry 22). Where a PRESENCE frame changes both slots, slot 1's CARD and ACTIVITY
records come first (DESIGN CHOICE: log entry 37); each may stand in a slot of its own or be folded over by slot 2's. -/
def Obligations.ReportsAreResolved : Prop :=
  (∀ (s : State) (t : Nat) (slot activity : Byte) (minute : BitVec 16), Awake s → listening s = true →
      (Instr.activityFrame t slot activity minute).wf = true →
      ∃ u, exec (.activityFrame t slot activity minute) s = .next u ∧ Resolved u ∧ u.dtu.moving = s.dtu.moving ∧
        DrivingRight u ∧ ImpliedRight u ∧
        (s.tlr.line = .alive → inRun s = true → DrivingCausesFollow u s ∧ ImpliedCauseFollows u s) ∧
        (s.tlr.line = .alive → u.dtu.line = s.dtu.line ∧ ConflictsRecorded u s s.dtu.motionPosted) ∧
        ∀ i : Fin 2, AccountKept u s i ∧ (u.driver i).present = (s.driver i).present ∧
          (u.driver i).holderValid = (s.driver i).holderValid ∧
          (u.driver i).report = (if i.val + 1 = slot.toNat then
            some (if activity.toNat = 0 then .rest else if activity.toNat = 1 then .available
              else if activity.toNat = 2 then .work else .drive, .tacho) else (s.driver i).report) ∧
          (s.tlr.line = .alive → ((u.driver i).activity, (u.driver i).source) = ((s.driver i).activity, (s.driver i).source) →
            (u.driver i).logCount = (s.driver i).logCount ∧ (u.driver i).logHead = (s.driver i).logHead ∧
              (u.driver i).sinceDay = (s.driver i).sinceDay ∧ (u.driver i).sinceMinute = (s.driver i).sinceMinute) ∧
          (s.tlr.line = .alive → ((u.driver i).activity, (u.driver i).source) ≠ ((s.driver i).activity, (s.driver i).source) →
            (s.dtu.day ≠ 0 ∨ minute.toNat ≤ s.dtu.minute) →
            (u.driver i).sinceMinute = (if i.val + 1 = slot.toNat then minute.toNat else s.dtu.minute) ∧
              (u.driver i).sinceDay =
                (if i.val + 1 = slot.toNat ∧ s.dtu.minute < minute.toNat then s.dtu.day - 1 else s.dtu.day) ∧
              (u.driver i).logCount = min 32 ((s.driver i).logCount + 1) ∧
              (u.driver i).logHead = (if (s.driver i).logCount = 0 then 0 else ((s.driver i).logHead + 1) % 32) ∧
              (u.driver i).log[(Fin.ofNat 32 (u.driver i).logHead : Fin 32)] =
                { activity := (u.driver i).activity, source := (u.driver i).source, startDay := (u.driver i).sinceDay
                  startMinute := (u.driver i).sinceMinute, duration := 0, gap := false
                  conflict := ((u.driver i).log[(Fin.ofNat 32 (u.driver i).logHead : Fin 32)]).conflict })) ∧
    (∀ (s : State) (t : Nat) (slot activity : Byte) (minute : BitVec 16), Awake s → listening s = true →
      (Instr.activityFrame t slot activity minute).wf = true → s.tlr.line = .alive → minute.toNat ≤ s.dtu.minute →
      ∃ u, exec (.activityFrame t slot activity minute) s = .next u ∧
        ∀ i : Fin 2, i.val + 1 = slot.toNat → (u.driver i).activity ≠ (s.driver i).activity →
          ((u.driver (1 - i)).activity, (u.driver (1 - i)).source) =
            ((s.driver (1 - i)).activity, (s.driver (1 - i)).source) →
          Recorded u s .activity
            ([slot, u8 ((u.driver i).activity.code + 16 * (u.driver i).source.code),
              u8 ((s.driver i).activity.code + 16 * (s.driver i).source.code)] ++
              le 2 s.dtu.day ++ le 2 minute.toNat)) ∧
    (∀ (s : State) (t : Nat), Awake s → inRun s = true →
      ∃ u, exec (.speedUpdate t) s = .next u ∧
        (u.spd.moving ≠ s.spd.moving → Resolved u ∧ DrivingRight u ∧ ImpliedRight u ∧ DrivingCausesFollow u s ∧
          ImpliedCauseFollows u s) ∧
        (s.spd.moving = false → u.spd.moving = true → u.dtu.line = s.dtu.line ∧ ConflictsRecorded u s false)) ∧
    ∀ (s : State) (t : Nat) (a1 a2 flags : Byte), Awake s → listening s = true → a1.toNat ≤ 3 → a2.toNat ≤ 3 →
      ∃ u, exec (.presenceFrame t a1 a2 flags) s = .next u ∧ Resolved u ∧ u.dtu.moving = s.dtu.moving ∧
        DrivingRight u ∧ ImpliedRight u ∧
        (s.tlr.line = .alive → inRun s = true → DrivingCausesFollow u s ∧ ImpliedCauseFollows u s) ∧
        (s.tlr.line = .alive → u.dtu.line = s.dtu.line ∧ ConflictsRecorded u s s.dtu.motionPosted) ∧
        ((∀ i : Fin 2, (s.driver i).present = bit flags i.val) → NotPosted u s .card) ∧
        (∀ i : Fin 2, (s.driver i).present ≠ bit flags i.val → Posted u s .card (presenceRecord s flags i) ∨
          ∃ j, i < j ∧ (s.driver j).present ≠ bit flags j.val ∧ ∃ e ∈ u.lnk.backlog, e.kind = .card ∧
            e.payload = padTo 8 (presenceRecord s flags j)) ∧
        ∀ i : Fin 2, AccountKept u s i ∧ (u.driver i).present = bit flags i.val ∧
          (u.driver i).holderValid = ((s.driver i).holderValid && ((s.driver i).present || !bit flags i.val)) ∧
          ∀ a : Activity, a = Activity.ofCode (if i = 0 then a1 else a2).toNat →
            (u.driver i).report = (if (s.driver i).report.map Prod.fst = some a then (s.driver i).report
              else some (a, .presence)) ∧
          (s.tlr.line = .alive → ¬SlotChanged u s i → (u.driver i).logCount = (s.driver i).logCount ∧
            (u.driver i).logHead = (s.driver i).logHead ∧ (u.driver i).sinceDay = (s.driver i).sinceDay ∧
            (u.driver i).sinceMinute = (s.driver i).sinceMinute) ∧
          (s.tlr.line = .alive → SlotChanged u s i → ChangeLogged u s i s.dtu.day s.dtu.minute ∧
            (Posted u s .activity (activityRecord u s i s.dtu.day s.dtu.minute) ∨
              ∃ j, i < j ∧ SlotChanged u s j ∧ ∃ e ∈ u.lnk.backlog, e.kind = .activity ∧
                e.payload = padTo 8 (activityRecord u s j s.dtu.day s.dtu.minute)))

/-- A CARD insert loads the carried values, clamped weekly, daily, continuous in that order, empties the log of another
holder, evaluates the warnings with an extension test and computes the remaining values (R103, R104, R105, R107). A withdraw
makes the slot ABSENT with its account frozen, and on an ABSENT slot only posts the record (R108). Both post a CARD record.
Assertions 45 to 49 then stand right, and in RUN their causes follow (R106, R114). That a withdraw on an ABSENT slot runs no
resolution rule is DEDUCED (log entry 23). -/
def Obligations.CardFramesLoadTheAccount : Prop :=
  (∀ (s : State) (t : Nat) (f : CardFields), Awake s → listening s = true → (Instr.cardFrame t f).wf = true →
      f.event.toNat = 1 →
      ∃ u, exec (.cardFrame t f) s = .next u ∧ Resolved u ∧ DrivingRight u ∧ ImpliedRight u ∧
        (s.tlr.line = .alive → inRun s = true → DrivingCausesFollow u s ∧ ImpliedCauseFollows u s) ∧
        (∀ i : Fin 2, i.val + 1 ≠ f.slot.toNat → AccountKept u s i ∧ (u.driver i).present = (s.driver i).present) ∧
        ∀ i : Fin 2, i.val + 1 = f.slot.toNat →
          (u.driver i).present = true ∧ (u.driver i).holder = f.holder.toNat ∧ (u.driver i).holderValid = true ∧
          (u.driver i).wd = f.weekly.toNat ∧ (u.driver i).dd = min f.daily.toNat f.weekly.toNat ∧
          (u.driver i).cd = min f.continuous.toNat (min f.daily.toNat f.weekly.toNat) ∧ (u.driver i).br = 0 ∧
          ((u.driver i).firstPart = true ↔ f.breakState.toNat = 1) ∧ (u.driver i).restored = false ∧
          (takesExtension s (u.driver i).dd f.extensions.toNat (decide ((profile s).dailyLimit < (u.driver i).dd)) = true →
            (u.driver i).extended = true ∧ (u.driver i).extensions = f.extensions.toNat + 1) ∧
          (takesExtension s (u.driver i).dd f.extensions.toNat (decide ((profile s).dailyLimit < (u.driver i).dd)) = false →
            (u.driver i).extended = decide ((profile s).dailyLimit < (u.driver i).dd) ∧
              (u.driver i).extensions = f.extensions.toNat) ∧
          WarningsRight u i ∧ RemainingRight u i ∧
          (s.tlr.line = .alive → ((u.driver i).activity, (u.driver i).source) = ((s.driver i).activity, (s.driver i).source) →
            (u.driver i).logCount =
              if (s.driver i).holderValid = true ∧ (s.driver i).holder = f.holder.toNat then (s.driver i).logCount else 0) ∧
          (slotFilled s (cursorSlot s) = true →
            Recorded u s .card ([f.slot, u8 1] ++ le 4 f.holder.toNat ++ le 2 (u.driver i).dd)) ∧
          Posted u s .card ([f.slot, u8 1] ++ le 4 f.holder.toNat ++ le 2 (u.driver i).dd)) ∧
    ∀ (s : State) (t : Nat) (f : CardFields), Awake s → listening s = true → (Instr.cardFrame t f).wf = true →
      f.event.toNat = 0 →
      ∃ u, exec (.cardFrame t f) s = .next u ∧
        ∀ i : Fin 2, i.val + 1 = f.slot.toNat →
          AccountKept u s i ∧ (u.driver i).present = false ∧ (u.driver i).holderValid = (s.driver i).holderValid ∧
          Posted u s .card ([f.slot, u8 0] ++ le 4 (s.driver i).holder ++ le 2 (s.driver i).dd) ∧
          ((s.driver i).present = true → Resolved u ∧ DrivingRight u ∧ ImpliedRight u ∧ RemainingRight u i ∧
            (s.tlr.line = .alive → inRun s = true → DrivingCausesFollow u s ∧ ImpliedCauseFollows u s)) ∧
          ((s.driver i).present = false → s.tlr.line = .alive → OnlyChanges [.tlr, .journal] (tick t s) u ∧
            Recorded u s .card ([f.slot, u8 0] ++ le 4 (s.driver i).holder ++ le 2 (s.driver i).dd))

/-- Outside LOADING the second advances when its milliseconds roll over, and nothing else changes; from 59 it rolls over to 0
and advances the minute, and that to the day, which saturates at 65,535 (R97). The ended minute is counted when it is later
than the last credited one, which it then becomes (R99). MINUTE_EVENT is the rollover of second 59 and nothing else
(log entry 28). The model's choice (DESIGN CHOICE: log entry 38): a second lasts exactly 1,000,000 µs from its start, and a
SECOND_CHANGE or MINUTE_EVENT before that, or a MINUTE_EVENT in another second, finds nothing. -/
def Obligations.ClockTicks : Prop :=
  (∀ (s : State) (t : Nat), Awake s → s.psc.power ≠ .loading → s.dtu.secondStart + 1000000 ≤ instant t s →
      s.dtu.second < 59 →
      ∃ u, exec (.secondChange t) s = .next u ∧ OnlyChanges [.dtu] (tick t s) u ∧
        u.dtu = { s.dtu with second := s.dtu.second + 1, secondStart := s.dtu.secondStart + 1000000 }) ∧
    (∀ (s : State) (t : Nat), Awake s → s.psc.power ≠ .loading → s.dtu.secondStart + 1000000 ≤ instant t s →
      s.dtu.second = 59 →
      ∃ u, exec (.minuteEvent t) s = .next u ∧ exec (.secondChange t) s = .next u ∧
        OnlyChanges [.dtu, .ttu, .journal] (tick t s) u ∧ u.dtu.second = 0 ∧
        u.dtu.secondStart = s.dtu.secondStart + 1000000 ∧ u.dtu.timeValid = s.dtu.timeValid ∧
        u.dtu.moving = s.dtu.moving ∧ u.dtu.line = s.dtu.line ∧
        (s.dtu.minute < 1439 → u.dtu.minute = s.dtu.minute + 1 ∧ u.dtu.day = s.dtu.day) ∧
        (s.dtu.minute = 1439 → s.dtu.day ≤ 65535 → u.dtu.minute = 0 ∧ u.dtu.day = min 65535 (s.dtu.day + 1)) ∧
        (if s.dtu.lastDay < s.dtu.day ∨ (s.dtu.lastDay = s.dtu.day ∧ s.dtu.lastMinute < s.dtu.minute) then
          u.dtu.lastDay = s.dtu.day ∧ u.dtu.lastMinute = s.dtu.minute
        else u.dtu.lastDay = s.dtu.lastDay ∧ u.dtu.lastMinute = s.dtu.lastMinute)) ∧
    (∀ (s : State) (t : Nat), Awake s →
      s.psc.power = .loading ∨ instant t s < s.dtu.secondStart + 1000000 → exec (.secondChange t) s = .next (tick t s)) ∧
    ∀ (s : State) (t : Nat), Awake s →
      s.psc.power = .loading ∨ instant t s < s.dtu.secondStart + 1000000 ∨ s.dtu.second < 59 →
      exec (.minuteEvent t) s = .next (tick t s)

/-- A counted minute event adds a minute to each slot's newest log entry and credits the ended minute of a PRESENT slot to
its activity in force (R100): DRIVE to the three counters; a break activity to the break run, with the three tests of R101 in
their order; anything but a break activity ends the run (R102). Counted or not, each PRESENT slot's warnings are evaluated,
the remaining values computed and assertions 45 to 48 re-evaluated (R103, R104, R105, R106). A DRIVE_LIMIT record is posted for
an extension taken and for a limit flag that goes from clear to set, with the counter and the limit in force, and none is posted
where neither happens (R104, R105): each stands in a slot of its own, or in the backlog, where a later one of the event may have
folded over it, slot 2's being later than slot 1's (DESIGN CHOICE: log entry 37). In RUN causes 45 to 48 follow their assertions
(R106). -/
def Obligations.MinuteEventCredits : Prop :=
  ∀ (s : State) (t : Nat) (i : Fin 2), Awake s → s.psc.power ≠ .loading →
    s.dtu.secondStart + 1000000 ≤ instant t s → s.dtu.second = 59 → ∀ p : Profile, p = profile s →
    ∃ u, exec (.minuteEvent t) s = .next u ∧ RemainingRight u i ∧ DrivingRight u ∧
      (inRun s = true → DrivingCausesFollow u s) ∧
      (limitRecords u s 0 ++ limitRecords u s 1 ≠ [] →
        ∃ x ∈ limitRecords u s 0 ++ limitRecords u s 1, Recorded u s .driveLimit x) ∧
      (∀ (k : Nat) x, (limitRecords u s 0 ++ limitRecords u s 1)[k]? = some x → Posted u s .driveLimit x ∨
        ∃ (m : Nat) (y : List Byte), k < m ∧ (limitRecords u s 0 ++ limitRecords u s 1)[m]? = some y ∧
          ∃ e ∈ u.lnk.backlog, e.kind = .driveLimit ∧ e.payload = padTo 8 y) ∧
      (limitRecords u s 0 ++ limitRecords u s 1 = [] → NotPosted u s .driveLimit) ∧
      ((s.driver i).present = true → WarningsRight u i) ∧
      ((s.driver i).present = false → AccountKept u s i) ∧
      (u.driver i).present = (s.driver i).present ∧ (u.driver i).activity = (s.driver i).activity ∧
      (u.driver i).logCount = (s.driver i).logCount ∧ (u.driver i).logHead = (s.driver i).logHead ∧
      (¬(s.dtu.lastDay < s.dtu.day ∨ (s.dtu.lastDay = s.dtu.day ∧ s.dtu.lastMinute < s.dtu.minute)) →
        (u.driver i).cd = (s.driver i).cd ∧ (u.driver i).dd = (s.driver i).dd ∧ (u.driver i).wd = (s.driver i).wd ∧
          (u.driver i).br = (s.driver i).br ∧ (u.driver i).firstPart = (s.driver i).firstPart ∧
          (u.driver i).log = (s.driver i).log) ∧
      (s.dtu.lastDay < s.dtu.day ∨ (s.dtu.lastDay = s.dtu.day ∧ s.dtu.lastMinute < s.dtu.minute) →
        (∀ j : Fin 32, ((u.driver i).log[j]).duration =
          if (s.driver i).logCount ≠ 0 ∧ j = Fin.ofNat 32 (s.driver i).logHead then
            min 65535 (((s.driver i).log[j]).duration + 1) else ((s.driver i).log[j]).duration) ∧
        ((s.driver i).present = true → (s.driver i).activity = .drive →
          (u.driver i).cd = min 65535 ((s.driver i).cd + 1) ∧ (u.driver i).dd = min 65535 ((s.driver i).dd + 1) ∧
            (u.driver i).wd = min 65535 ((s.driver i).wd + 1)) ∧
        ((s.driver i).present = true →
          (s.driver i).activity = .rest ∨ ((s.driver i).activity = .available ∧ p.restAndAvailable = true) →
          ∀ br : Nat, br = min 65535 ((s.driver i).br + 1) →
            (u.driver i).br = br ∧
            (if p.fullBreak ≤ br ∨ ((s.driver i).firstPart = true ∧ p.splitSecond ≤ br) then
              (u.driver i).cd = 0 ∧ (u.driver i).firstPart = false
            else (u.driver i).cd = (s.driver i).cd ∧ (u.driver i).firstPart = (s.driver i).firstPart) ∧
            (u.driver i).dd = (if p.dailyRest ≤ br then 0 else (s.driver i).dd) ∧
            (u.driver i).wd = (if p.weeklyRest ≤ br then 0 else (s.driver i).wd) ∧
            (if takesExtension s (u.driver i).dd (if p.weeklyRest ≤ br then 0 else (s.driver i).extensions)
                (if p.dailyRest ≤ br then false else (s.driver i).extended) then
              (u.driver i).extended = true ∧
                (u.driver i).extensions = (if p.weeklyRest ≤ br then 0 else (s.driver i).extensions) + 1
            else (u.driver i).extended = (if p.dailyRest ≤ br then false else (s.driver i).extended) ∧
              (u.driver i).extensions = (if p.weeklyRest ≤ br then 0 else (s.driver i).extensions))) ∧
        ((s.driver i).present = true → (s.driver i).activity ≠ .rest →
          ((s.driver i).activity = .available → p.restAndAvailable = false) →
          (u.driver i).br = 0 ∧
            ((u.driver i).firstPart = true ↔ (s.driver i).firstPart = true ∨
              (p.splitFirst ≤ (s.driver i).br ∧ (s.driver i).br < p.fullBreak)) ∧
            (if takesExtension s (u.driver i).dd (s.driver i).extensions (s.driver i).extended then
              (u.driver i).extended = true ∧ (u.driver i).extensions = (s.driver i).extensions + 1
            else (u.driver i).extended = (s.driver i).extended ∧
              (u.driver i).extensions = (s.driver i).extensions)) ∧
        ((s.driver i).present = true → (s.driver i).activity = .work ∨ (s.driver i).activity = .unknown ∨
            ((s.driver i).activity = .available ∧ p.restAndAvailable = false) →
          (u.driver i).cd = (s.driver i).cd ∧ (u.driver i).dd = (s.driver i).dd ∧ (u.driver i).wd = (s.driver i).wd))

/-! ### The segment panel -/

/-- A compose event in RUN lights exactly the positions on which a segment or an icon is lit (R125, R135); in NORMAL the
display image shows them, in the OFF phase without those that only blink-maskable strokes light (R134), and in PROOF it shows
every position (R137). A cell goes to the lowest-numbered field that claims it (R132); OFF and INVALID fields claim none, and
a numeric field is OVERRANGE, all dashes, exactly when its value does not fit (R126, R131). A DECIMAL and an H:MM field draw
their digits, blanks and points as R128 and R129 state, a CHAR field its text's codes or its activity's letter, all in the font
of R130. The sources have the values of R127, and each icon is lit as its binding says (R133). A frame start latches the display
image and turns the polarity, and the COM and SEG lines stand at the levels of R124's table. The model's choices (DEDUCED: log
entry 30): source 0 shows OFF whatever the other settings, and an activity in DECIMAL is divided by the scale. -/
def Obligations.ComposeEventBuildsTheImage : Prop :=
  (∀ (s : State) (t : Nat), Awake s → inRun s = true →
      ∃ u, exec (.composeEvent t) s = .next u ∧ OnlyChanges [.sdu] (tick t s) u ∧
        u.sdu = { s.sdu with
          fields := u.sdu.fields, composed := u.sdu.composed, maskable := u.sdu.maskable, image := u.sdu.image
          count := (s.sdu.count + 1) % 256 } ∧
        (∀ (com : Fin 4) (seg : Fin 52),
          (LitAt u.sdu.composed com seg ↔ StrokeAt s com seg true ∨ StrokeAt s com seg false) ∧
          (LitAt u.sdu.image com seg ↔ s.psc.power = .proof ∨
            StrokeAt s com seg false ∨ (s.sdu.blinkOn = true ∧ StrokeAt s com seg true))) ∧
        ∀ f : Fin 16, u.sdu.fields[f].state = (composeFields s)[f].state ∧
          u.sdu.fields[f].blinking = (composeFields s)[f].blinking ∧
          u.sdu.fields[f].won = (List.finRange 12).countP fun k =>
            (composeFields s)[f].claims k.val && !(List.finRange 16).any fun g =>
              decide (g < f) && (composeFields s)[g].claims k.val) ∧
    (∀ (s : State) (t : Nat), Awake s → inRun s = false → exec (.composeEvent t) s = .next (tick t s)) ∧
    (∀ (s : State) (f : Fin 16),
      ((fieldSettings s f.val).source = 0 → (composeFields s)[f].state = .off ∧ (composeFields s)[f].glyphs = []) ∧
      ((fieldSettings s f.val).source ≠ 0 → (fieldSettings s f.val).valid = false →
        (composeFields s)[f].state = .invalid ∧ (composeFields s)[f].glyphs = []) ∧
      ((fieldSettings s f.val).valid = true →
        (composeFields s)[f].glyphs.length = (fieldSettings s f.val).count ∧
          ((composeFields s)[f].blinking = true ↔ (fieldSettings s f.val).blink = 1 ∨
            ∃ n : Fin 53, (fieldSettings s f.val).blink = 0x80 + n.val ∧ (s.causeOf n).state = .active)) ∧
      ((fieldSettings s f.val).valid = true → (fieldSettings s f.val).format = some .decimal →
        ∀ v, sourceValue s (fieldSettings s f.val).source (fieldSettings s f.val).argument = some v → v < 10 ^ 20 →
        ((composeFields s)[f].state = .overrange ↔
          10 ^ (fieldSettings s f.val).count ≤ v / (fieldSettings s f.val).scale ∨
            (fieldSettings s f.val).count ≤ (fieldSettings s f.val).places) ∧
        ((composeFields s)[f].state = .overrange ∨ (composeFields s)[f].state = .shown) ∧
        ((composeFields s)[f].state = .shown → (composeFields s)[f].colon = false ∧ (composeFields s)[f].glyphs =
          (List.range (fieldSettings s f.val).count).map fun k => decimalGlyph (fieldSettings s f.val)
            (v / (fieldSettings s f.val).scale) ((fieldSettings s f.val).count - 1 - k))) ∧
      ((fieldSettings s f.val).valid = true → (fieldSettings s f.val).format = some .hmm →
        ∀ v, sourceValue s (fieldSettings s f.val).source (fieldSettings s f.val).argument = some v → v < 10 ^ 20 →
        ((composeFields s)[f].state = .overrange ↔ (fieldSettings s f.val).count < 3 ∨
          10 ^ ((fieldSettings s f.val).count - 2) ≤ v / (fieldSettings s f.val).scale / 60) ∧
        ((composeFields s)[f].state = .overrange ∨ (composeFields s)[f].state = .shown) ∧
        ((composeFields s)[f].state = .shown → (composeFields s)[f].colon = true ∧ (composeFields s)[f].glyphs =
          (List.range (fieldSettings s f.val).count).map fun k => hmmGlyph (fieldSettings s f.val)
            (v / (fieldSettings s f.val).scale) ((fieldSettings s f.val).count - 1 - k))) ∧
      ((fieldSettings s f.val).valid = true → (fieldSettings s f.val).format = some .char →
        (composeFields s)[f].state = .shown ∧
        ((fieldSettings s f.val).source = 12 → ∀ k : Fin 12, k.val < (fieldSettings s f.val).count →
          (composeFields s)[f].glyphs[k.val]? =
            some (glyphOf (s.sdu.texts[(Fin.ofNat 4 (fieldSettings s f.val).argument : Fin 4)])[k])) ∧
        ((fieldSettings s f.val).source = 10 → (composeFields s)[f].glyphs =
          font (match (activityDriver s (fieldSettings s f.val).argument).activity with
            | .rest => 0x72
            | .available => 0x41
            | .work => 0x48
            | .drive => 0x64
            | .unknown => 0x2D) :: List.replicate ((fieldSettings s f.val).count - 1) 0)) ∧
      ((fieldSettings s f.val).valid = true → (fieldSettings s f.val).format ≠ some .char →
        ((composeFields s)[f].state = .noData ↔
          sourceValue s (fieldSettings s f.val).source (fieldSettings s f.val).argument = none)) ∧
      ((composeFields s)[f].state = .overrange ∨ (composeFields s)[f].state = .noData →
        ∀ x ∈ (composeFields s)[f].glyphs, x = 0x40)) ∧
    (∀ s : State, SourcesRight s ∧ IconsRight s) ∧
    ((∀ row ∈ fontTable, ∀ j : Fin 8, bit (font row.1) j.val = true ↔ j.val ∈ row.2) ∧
      (∀ code, code ∉ fontTable.map Prod.fst → font code = 0) ∧
      ∀ b : Byte, glyphOf b = if b.toNat < 0x80 then font b.toNat else font (b.toNat - 0x80) ||| 0x80) ∧
    (∀ (s : State) (t : Nat), Awake s → inRun s = true →
      ∃ u, exec (.blinkStep t) s = .next u ∧ OnlyChanges [.sdu] (tick t s) u ∧
        (s.psc.power = .proof → u.sdu = { s.sdu with blinkOn := !s.sdu.blinkOn }) ∧
        (s.psc.power = .normal →
          u.sdu = { s.sdu with blinkOn := !s.sdu.blinkOn, image := u.sdu.image, count := (s.sdu.count + 1) % 256 } ∧
            ∀ (com : Fin 4) (seg : Fin 52), LitAt u.sdu.image com seg ↔
              LitAt s.sdu.composed com seg ∧ (s.sdu.blinkOn = false ∨ ¬LitAt s.sdu.maskable com seg))) ∧
    (∀ (s : State) (t : Nat), Awake s → inRun s = false → exec (.blinkStep t) s = .next (tick t s)) ∧
    (∀ (s : State) (t : Nat), Awake s → s.sdu.panel ≠ .undriven →
      ∃ u, exec (.frameStart t) s = .next u ∧ OnlyChanges [.sdu] (tick t s) u ∧
        u.sdu = { s.sdu with
          rate := (if (hostByte s 0x8B7).toNat ≤ 3 then (hostByte s 0x8B7).toNat else 1)
          drive := { image := s.sdu.image, inverted := s.sdu.drive.nextInverted
                     nextInverted := !s.sdu.drive.nextInverted } } ∧
        (∀ phase com : Fin 4, comLevel u phase com =
          if s.sdu.drive.nextInverted then (if com = phase then .v0 else .v2) else (if com = phase then .v3 else .v1)) ∧
        ∀ (phase : Fin 4) (seg : Fin 52),
          (LitAt s.sdu.image phase seg → segLevel u phase seg = if s.sdu.drive.nextInverted then .v3 else .v0) ∧
          (¬LitAt s.sdu.image phase seg → segLevel u phase seg = if s.sdu.drive.nextInverted then .v1 else .v2)) ∧
    ∀ (s : State) (t : Nat), Awake s → s.sdu.panel = .undriven → exec (.frameStart t) s = .next (tick t s)

/-! ### The non-volatile store -/

/-- With no operation in flight NVS starts the most urgent request, ODO before CAL before SNAP before SETS before an erase
(R155), unless it may not start; a program waits for its target sector's erase, and takes its content, its slot and its time
from R145, R148 and R150. The end of an erase leaves its sector FFh and nothing else of the array changed (R141); the program
step of SETS, with the image of that instant, follows its erase step at once (R153). The model's choices: NVS_START is the
start that R155 makes in the event itself (DEDUCED: log entry 27), an erase that ends is complete (DESIGN CHOICE: log entry
41), a CAL record's sequence is the number of its slot (DEDUCED: log entry 25), the SNAP of a STANDBY entry passes a waiting SETS
as any SNAP does (DEDUCED: log entry 51, R155 against R159), and the image has the slot number 0 (DESIGN CHOICE: log entry 52). -/
def Obligations.StoreStartsTheMostUrgentOperation : Prop :=
  (∀ (s : State) (t : Nat), Awake s → s.nvs.flight = .none → s.nvs.active = true → s.psc.low = false →
      ∃ u, exec (.nvsStart t) s = .next u ∧ OnlyChanges [.nvs, .orders, .ttu, .journal] (tick t s) u ∧
        (StoreIdle s → u = tick t s) ∧
        (s.nvs.odo.isSome = true → isDue s (odoSector s.nvs.odoPtr) = true →
          OnlyChanges [.nvs] (tick t s) u ∧ u.nvs = { s.nvs with flight := u.nvs.flight } ∧ u.nvs.flight = .erase
            { sector := odoSector s.nvs.odoPtr, forSets := false, failures := 0
              startedAt := instant t s, remaining := 40000 }) ∧
        (∀ w, s.nvs.odo = some w → isDue s (odoSector s.nvs.odoPtr) = false →
          Memory.blank s.nvs.array (odoAddr s.nvs.odoPtr) 8 = true →
          OnlyChanges [.nvs, .orders] (tick t s) u ∧
          u.nvs = { s.nvs with odo := none, odoSeq := (s.nvs.odoSeq + 1) % 65536, flight := u.nvs.flight } ∧
          u.nvs.flight = .program
            { kind := .odo, slot := s.nvs.odoPtr, addr := odoAddr s.nvs.odoPtr
              bytes := odoRecord s.spd.odometer s.nvs.odoSeq, startedAt := instant t s, endsAt := instant t s + 120
              failures := w.failures, content := ⟨0, false⟩ } ∧
          ∀ k : Fin 8, u.orderSlot k = { s.orderSlot k with progress :=
            if (s.orderSlot k).progress = .presetWaiting then .presetArmed else (s.orderSlot k).progress }) ∧
        (s.nvs.odo = none → ∀ c, s.nvs.cal = some c → s.nvs.calPtr < 256 →
          Memory.blank s.nvs.array (calAddr s.nvs.calPtr) 16 = true →
          OnlyChanges [.nvs] (tick t s) u ∧ u.nvs = { s.nvs with cal := none, flight := u.nvs.flight } ∧
          u.nvs.flight = .program
            { kind := .cal, slot := s.nvs.calPtr, addr := calAddr s.nvs.calPtr, bytes := calRecord c.1 s.nvs.calPtr
              startedAt := instant t s, endsAt := instant t s + 240, failures := c.2.failures, content := c.1 }) ∧
        (s.nvs.odo = none → s.nvs.cal = none → s.nvs.snap.isSome = true →
          isDue s (snapSector s.nvs.snapPtr) = true →
          OnlyChanges [.nvs] (tick t s) u ∧ u.nvs = { s.nvs with flight := u.nvs.flight } ∧ u.nvs.flight = .erase
            { sector := snapSector s.nvs.snapPtr, forSets := false, failures := 0
              startedAt := instant t s, remaining := 40000 }) ∧
        (s.nvs.odo = none → s.nvs.cal = none → ∀ w, s.nvs.snap = some w → isDue s (snapSector s.nvs.snapPtr) = false →
          Memory.blank s.nvs.array (snapAddr s.nvs.snapPtr) 256 = true →
          OnlyChanges [.nvs, .orders] (tick t s) u ∧
          u.nvs = { s.nvs with snap := none, snapSeq := s.nvs.snapSeq + 1, flight := u.nvs.flight } ∧
          u.nvs.flight = .program
            { kind := .snap, slot := s.nvs.snapPtr, addr := snapAddr s.nvs.snapPtr, bytes := snapRecord s
              startedAt := instant t s, endsAt := instant t s + 3840, failures := w.failures, content := ⟨0, false⟩ } ∧
          ∀ k : Fin 8, u.orderSlot k = { s.orderSlot k with progress :=
            if (s.orderSlot k).progress = .snapWaiting then .snapArmed else (s.orderSlot k).progress }) ∧
        (s.nvs.odo = none → s.nvs.cal = none → s.nvs.snap = none → ∀ w, s.nvs.sets = some w →
          OnlyChanges [.nvs] (tick t s) u ∧ u.nvs = { s.nvs with sets := none, flight := u.nvs.flight } ∧ u.nvs.flight = .erase
            { sector := 0, forSets := true, failures := w.failures, startedAt := instant t s, remaining := 40000 }) ∧
        (s.nvs.odo = none → s.nvs.cal = none → s.nvs.snap = none → s.nvs.sets = none →
          ∀ sec : Fin 14, s.nvs.due[sec] = true → (∀ r : Fin 14, r < sec → s.nvs.due[r] = false) →
          OnlyChanges [.nvs] (tick t s) u ∧ u.nvs = { s.nvs with flight := u.nvs.flight } ∧ u.nvs.flight = .erase
            { sector := sec.val, forSets := false, failures := 0, startedAt := instant t s, remaining := 40000 })) ∧
    (∀ (s : State) (t : Nat), Awake s → s.nvs.flight ≠ .none ∨ s.nvs.active = false ∨ s.psc.low = true →
      exec (.nvsStart t) s = .next (tick t s)) ∧
    (∀ (s : State) (t : Nat), Awake s → MemoriesCanonical s → ∀ e, s.nvs.flight = .erase e → e.forSets = true →
      e.startedAt + e.remaining ≤ instant t s →
      ∃ u, exec (.setsEraseStepEnd t) s = .next u ∧ OnlyChanges [.nvs, .array] (tick t s) u ∧ Blanked u s 0 4096 ∧
        u.nvs = { s.nvs with array := u.nvs.array, flight := u.nvs.flight } ∧
        u.nvs.flight = .program
          { kind := .sets, slot := 0, addr := 0, bytes := settingsImage s, startedAt := instant t s
            endsAt := instant t s + 20940, failures := e.failures, content := ⟨0, false⟩ }) ∧
    (∀ (s : State) (t : Nat), Awake s → MemoriesCanonical s → ∀ e, s.nvs.flight = .erase e → e.forSets = false →
      e.sector < 14 →
      e.startedAt + e.remaining ≤ instant t s →
      ∃ u, exec (.eraseEnd t) s = .next u ∧ OnlyChanges [.nvs, .array, .orders, .ttu, .journal] (tick t s) u ∧
        Blanked u s (4096 * e.sector) 4096 ∧
        (∀ sec : Fin 14, u.nvs.due[sec] = true → sec.val ≠ e.sector ∧ s.nvs.due[sec] = true ∨
          s.nvs.odo.isSome = true ∨ s.nvs.snap.isSome = true) ∧
        (s.nvs.odo = none → s.nvs.cal = none → s.nvs.snap = none → s.nvs.sets = none →
          (∀ sec : Fin 14, sec.val ≠ e.sector → s.nvs.due[sec] = false) →
          OnlyChanges [.nvs, .array] (tick t s) u ∧ StoreIdle u ∧ u.nvs.flight = .none)) ∧
    (∀ (s : State) (t : Nat) (forSets : Bool), Awake s →
      (∀ e, s.nvs.flight = .erase e → e.forSets ≠ forSets ∨ instant t s < e.startedAt + e.remaining) →
      exec (if forSets then .setsEraseStepEnd t else .eraseEnd t) s = .next (tick t s)) ∧
    ∀ s : State, (settingsImage s).length = 1396 ∧ validImage (settingsImage s) = true

/-- A program that has run its time over a blank slot and reads back as written leaves its record there and nothing else of
the array changed (R141); its kind leaves the fault set (R157), and the orders it served complete DONE (R181, R188 to R192).
A CAL program sets the pulse constant and the lock (R148), with SPD's remainder, gate and speed reset (R20); a SNAP program
posts SNAPSHOT_SAVED (R150). Under a suspended erase the next pending CAL or ODO that can start follows, and otherwise the
erase resumes for its remaining time (R156). Cause 50 follows the fault set in RUN (R157). A program that fails its verify
returns its request with one failure counted, and one that fails a second time is dropped, its orders completing FAILED with the
detail VERIFY (R157), also with LOW clear, where NVS then goes on. The model's choices: SNAPSHOT_SAVED and STORE_FAULT stand
ahead of ORDER_DONE (DEDUCED: log entry 13), a CAL record's sequence is the number of its slot, also on a retry in the next one
(DEDUCED: log entry 25), and a STORE_FAULT record of the kind SETS bears the slot 0 (DESIGN CHOICE: log entry 52). -/
def Obligations.ProgramsEndVerifiedOrDropped : Prop :=
  (∀ (s : State) (t : Nat), Awake s → MemoriesCanonical s → ∀ p, s.nvs.flight = .program p → ProgramRan s t .odo p →
      ∃ u, exec (.odoProgramEnd t ⟨[], []⟩) s = .next u ∧
        OnlyChanges [.nvs, .array, .ttu, .journal, .orders] (tick t s) u ∧ Programmed u s p.addr p.bytes ∧ u.nvs.faults.odo = false ∧
        Completes u s [.presetArmed] 0x00 p.slot ∧ u.nvs.pulse = s.nvs.pulse ∧ u.spd = s.spd ∧
        (s.nvs.cal = none → StoreFaultFollows u s) ∧
        (s.nvs.odo = none → u.nvs.odoPtr = (s.nvs.odoPtr + 1) % 4096)) ∧
    (∀ (s : State) (t : Nat), Awake s → MemoriesCanonical s → ∀ p, s.nvs.flight = .program p → ProgramRan s t .cal p →
      ∃ u, exec (.calProgramEnd t ⟨[], []⟩) s = .next u ∧
        OnlyChanges [.spd, .gau, .nvs, .calibration, .array, .ttu, .journal, .orders] (tick t s) u ∧ Programmed u s p.addr p.bytes ∧
        u.nvs.pulse = p.content.pulse ∧ u.nvs.locked = p.content.locked ∧
        u.spd = { s.spd with remainder := 0, gate := none, gateState := .idle, vPub := 0, hold := 0 } ∧
        (∀ c : Fin 8, gaugeSource s c = .speed → (u.channel c).x = 0) ∧
        (s.nvs.cal = none → StoreFaultFollows u s ∧ u.nvs.faults.cal = false ∧ u.nvs.calPtr = p.slot + 1 ∧
          Completes u s [.calibrating, .locking] 0x00 (p.slot + 1))) ∧
    (∀ (s : State) (t : Nat), Awake s → MemoriesCanonical s → ∀ p, s.nvs.flight = .program p → ProgramRan s t .snap p →
      ∃ u, exec (.snapProgramEnd t ⟨[], []⟩) s = .next u ∧
        OnlyChanges [.nvs, .array, .ttu, .journal, .orders] (tick t s) u ∧ Programmed u s p.addr p.bytes ∧ u.nvs.faults.snap = false ∧
        Completes u s [.snapArmed] 0x00 p.slot ∧ u.spd = s.spd ∧
        (9 ≤ p.bytes.length → Recorded u s .snapshotSaved
          ((List.range 4).map (fun i => p.bytes.getD i 0) ++ [u8 p.slot] ++
            (List.range 3).map fun i => p.bytes.getD (6 + i) 0)) ∧
        (s.nvs.cal = none → StoreFaultFollows u s) ∧
        (s.nvs.snap = none → u.nvs.snapPtr = (s.nvs.snapPtr + 1) % 64)) ∧
    (∀ (s : State) (t : Nat), Awake s → MemoriesCanonical s → ∀ p, s.nvs.flight = .program p → ProgramRan s t .sets p →
      ∃ u, exec (.setsProgramEnd t ⟨[], []⟩) s = .next u ∧
        OnlyChanges [.nvs, .array, .ttu, .journal, .orders] (tick t s) u ∧ Programmed u s p.addr p.bytes ∧ u.nvs.faults.sets = false ∧
        Completes u s [.saving] 0x00 0 ∧ u.spd = s.spd ∧ Part.calibration.same s u ∧
        (s.nvs.cal = none → StoreFaultFollows u s)) ∧
    (∀ (s : State) (t : Nat), Awake s → MemoriesCanonical s → ∀ e p, ProgramRanOver s t .odo e p → s.nvs.odo = none →
      ∃ u, exec (.odoProgramEnd t ⟨[], []⟩) s = .next u ∧
        OnlyChanges [.nvs, .array, .ttu, .journal, .orders] (tick t s) u ∧ Programmed u s p.addr p.bytes ∧
        (s.nvs.cal = none → u.nvs.flight = .erase { e with startedAt := instant t s }) ∧
        (∀ c, s.nvs.cal = some c → s.nvs.calPtr < 256 →
          Memory.blank s.nvs.array (calAddr s.nvs.calPtr) 16 = true → 0x2000 ≤ p.addr →
          u.nvs.cal = none ∧ u.nvs.flight = .suspended e
            { kind := .cal, slot := s.nvs.calPtr, addr := calAddr s.nvs.calPtr, bytes := calRecord c.1 s.nvs.calPtr
              startedAt := instant t s, endsAt := instant t s + 240, failures := c.2.failures, content := c.1 })) ∧
    (∀ (s : State) (t : Nat), Awake s → MemoriesCanonical s → ∀ e p, ProgramRanOver s t .cal e p → s.nvs.cal = none →
      ∃ u, exec (.calProgramEnd t ⟨[], []⟩) s = .next u ∧
        OnlyChanges [.spd, .gau, .nvs, .calibration, .array, .ttu, .journal, .orders] (tick t s) u ∧
        Programmed u s p.addr p.bytes ∧ u.nvs.pulse = p.content.pulse ∧ u.nvs.locked = p.content.locked ∧
        (s.nvs.odo = none ∨ e.sector = odoSector s.nvs.odoPtr ∨ isDue s (odoSector s.nvs.odoPtr) = true →
          u.nvs.odo = s.nvs.odo ∧
          u.nvs.flight = .erase { e with startedAt := instant t s }) ∧
        (∀ w, s.nvs.odo = some w → isDue s (odoSector s.nvs.odoPtr) = false → e.sector ≠ odoSector s.nvs.odoPtr →
          Memory.blank s.nvs.array (odoAddr s.nvs.odoPtr) 8 = true → p.addr + p.bytes.length ≤ 0x2000 →
          u.nvs.odo = none ∧ u.nvs.flight = .suspended e
            { kind := .odo, slot := s.nvs.odoPtr, addr := odoAddr s.nvs.odoPtr
              bytes := odoRecord s.spd.odometer s.nvs.odoSeq, startedAt := instant t s, endsAt := instant t s + 120
              failures := w.failures, content := ⟨0, false⟩ })) ∧
    (∀ (s : State) (t : Nat) (cells : Cells), Awake s → MemoriesCanonical s → s.psc.low = true →
      ∀ p, s.nvs.flight = .program p → p.endsAt ≤ instant t s → verifies s p cells = false →
      ∃ u, exec (match p.kind with
          | .odo => .odoProgramEnd t cells
          | .cal => .calProgramEnd t cells
          | .snap => .snapProgramEnd t cells
          | .sets => .setsProgramEnd t cells) s = .next u ∧
        u.nvs.flight = .none ∧ Part.calibration.same s u ∧ u.spd = s.spd ∧
        (∀ b, b < p.addr ∨ p.addr + p.bytes.length ≤ b → arrayByte u b = arrayByte s b) ∧
        (p.failures = 0 → OnlyChanges [.nvs, .array] (tick t s) u ∧ u.nvs.faults = s.nvs.faults ∧
          (p.kind = .odo → u.nvs.odo = some ⟨1, p.slot⟩) ∧ (p.kind = .cal → u.nvs.cal = some (p.content, ⟨1, p.slot⟩)) ∧
          (p.kind = .snap → u.nvs.snap = some ⟨1, p.slot⟩) ∧ (p.kind = .sets → u.nvs.sets = some ⟨1, p.slot⟩)) ∧
        (p.failures ≠ 0 → OnlyChanges [.nvs, .array, .ttu, .journal, .orders] (tick t s) u ∧
          u.nvs.storeFault = true ∧ StoreFaultFollows u s ∧ Completes u s (ordersOf p.kind) 0x06 2 ∧
          (p.kind = .odo → u.nvs.faults.odo = true) ∧ (p.kind = .cal → u.nvs.faults.cal = true) ∧
          (p.kind = .snap → u.nvs.faults.snap = true) ∧ (p.kind = .sets → u.nvs.faults.sets = true) ∧
          (s.nvs.storeFault = true → Recorded u s .storeFault
            ([u8 p.kind.code, u8 0, u8 (kindSector p.kind p.slot)] ++ le 2 p.slot)))) ∧
    (∀ (s : State) (t : Nat) (cells : Cells), Awake s → MemoriesCanonical s → mayStart s = true → StoreIdle s →
      ∀ p, s.nvs.flight = .program p → p.endsAt ≤ instant t s → verifies s p cells = false →
      ∃ u, exec (match p.kind with
          | .odo => .odoProgramEnd t cells
          | .cal => .calProgramEnd t cells
          | .snap => .snapProgramEnd t cells
          | .sets => .setsProgramEnd t cells) s = .next u ∧ Part.calibration.same s u ∧ u.spd = s.spd ∧
        (∀ b, b < p.addr ∨ p.addr + p.bytes.length ≤ b → arrayByte u b = arrayByte s b) ∧
        (p.failures = 0 → p.kind = .cal → p.slot < 255 → p.addr + p.bytes.length ≤ calAddr (p.slot + 1) →
          Memory.blank s.nvs.array (calAddr (p.slot + 1)) 16 = true →
          OnlyChanges [.nvs, .array] (tick t s) u ∧ u.nvs.cal = none ∧ u.nvs.faults = s.nvs.faults ∧ u.nvs.flight = .program
            { kind := .cal, slot := p.slot + 1, addr := calAddr (p.slot + 1), bytes := calRecord p.content (p.slot + 1)
              startedAt := instant t s, endsAt := instant t s + 240, failures := 1, content := p.content }) ∧
        (p.failures = 0 → p.kind = .sets →
          OnlyChanges [.nvs, .array] (tick t s) u ∧ u.nvs.sets = none ∧ u.nvs.faults = s.nvs.faults ∧ u.nvs.flight = .erase
            { sector := 0, forSets := true, failures := 1, startedAt := instant t s, remaining := 40000 }) ∧
        (p.failures ≠ 0 → OnlyChanges [.nvs, .array, .ttu, .journal, .orders] (tick t s) u ∧
          u.nvs.storeFault = true ∧ StoreFaultFollows u s ∧ Completes u s (ordersOf p.kind) 0x06 2 ∧
          (p.kind = .odo → u.nvs.faults.odo = true) ∧ (p.kind = .cal → u.nvs.faults.cal = true) ∧
          (p.kind = .snap → u.nvs.faults.snap = true) ∧ (p.kind = .sets → u.nvs.faults.sets = true) ∧
          (s.nvs.storeFault = true → Recorded u s .storeFault
            ([u8 p.kind.code, u8 0, u8 (kindSector p.kind p.slot)] ++ le 2 p.slot)))) ∧
    ∀ (s : State) (t : Nat) (cells : Cells) (kind : Kind), Awake s →
      (∀ p, programOf s.nvs.flight = some p → p.kind ≠ kind ∨ instant t s < p.endsAt) →
      exec (match kind with
        | .odo => .odoProgramEnd t cells
        | .cal => .calProgramEnd t cells
        | .snap => .snapProgramEnd t cells
        | .sets => .setsProgramEnd t cells) s = .next (tick t s)

/-! ### Power states -/

/-- The end of LOADING (R160, R162, R196) leaves the odometer at the highest valid stored total, P and the lock as the highest
valid calibration slot holds them or 8,000 and OPEN, the trips, the time and both driver records as the valid snapshot of the
highest sequence holds them or as they were (R119, R161), and the settings sections, the section bitmap and the load control
table as a valid image gives them or at their defaults, the write pointers at the first blank slots with the erase-due marks of
R146 (R160, R161); NVS becomes active and starts a due erase at once, the part enters PROOF or STANDBY by IGN, and LOAD_OUTCOME,
the first record, is posted, a POWER record after it. In the same event the line timer starts (R80) and every block makes its
RUN or STANDBY entry (R47, R48, R77, R78, R120, R121, R137, R138). The model's choices: the whole sequence happens at this one
instant (DESIGN CHOICE: log entry 26), the record stands ahead of every other of the event (DEDUCED: log entry 13), a CAL record
that was cut off is not valid (DEDUCED: log entry 36), an image is valid by R152's tests alone (DEDUCED: log entry 55), at an
end into STANDBY the blocks' order decides between a due erase and DTU's SNAP (DESIGN CHOICE: log entry 56), codes and flag
bytes that no snapshot of the part holds are read, and a time out of range restored, as log entry 11 says (DEDUCED and DESIGN
CHOICE), a section that runs past the image length is not met (DESIGN CHOICE: log entry 46), bytes of a default section that no
rule states are 00h (DESIGN CHOICE: log entry 47), the line mirror's time reads 65,535 (DESIGN CHOICE: log entry 6), the first
second begins here (DESIGN CHOICE: log entry 38), and a channel's freshness starts by the source setting read at the entry
(DEDUCED: log entry 21). -/
def Obligations.LoadingReadsTheStoreBack : Prop :=
  (∀ (s : State) (t : Nat) (order : List Block), Awake s → MemoriesCanonical s → s.psc.power = .loading →
      ∃ u, exec (.loadingEnd t order) s = .next u ∧
        OnlyChanges [.psc, .spd, .gau, .ttu, .tlr, .dtu, .sdu, .nvs, .calibration, .host, .journal, .orders] (tick t s) u ∧
        u.psc.power = (if s.psc.ign then .proof else .standby) ∧ u.psc.ign = s.psc.ign ∧ u.psc.low = s.psc.low ∧
        u.psc.cause = s.psc.cause ∧ u.nvs.active = true ∧ u.nvs.array = s.nvs.array ∧
        u.psc.proofTimer = (if s.psc.ign then some (instant t s + proofTime u) else s.psc.proofTimer) ∧
        u.psc.lowAssert = (s.psc.ign && s.psc.low && s.psc.lowTimer.isNone) ∧
        Posted u s .power [u8 0, u8 u.psc.power.code, u8 0, u8 (flag s.psc.ign), u8 (flag s.psc.low), u8 s.psc.cause.code] ∧
        (u.tlr.line = s.tlr.line ∧ u.tlr.reference = instant t s ∧ u.tlr.mirrorTime = 65535 ∧
          u.tlr.lineTimer = some (instant t s + lineTimeout u) ∧ u.dtu.secondStart = instant t s) ∧
        (s.psc.ign = true →
          (∀ c : Fin 8,
            ((s.channel c).state = .unhomed → (u.channel c).state = .homing ∧ (u.channel c).aMax = sweepLimit u c ∧
              (u.channel c).count = sweepLimit u c + homeOverrun u c ∧ (u.channel c).sweepDue = sweepOnProof u c) ∧
            (gaugeSource u c = .host → (s.channel c).mode ≠ .hold → (u.channel c).fresh = true ∧
              (u.channel c).freshTimer = (if freshness u c = 0 then none else some (instant t s + freshness u c)))) ∧
          u.ttu.blink = 0 ∧ (∀ l : Fin 48, u.ttu.lamps[l].hold = lampProofHold u l ∧ LampFollows u l) ∧
          u.dtu.snapTimer = none ∧ DrivingRight u ∧ ImpliedRight u ∧ u.sdu.panel = .allOn ∧ u.sdu.blinkOn = true ∧
          ∀ com : Fin 4, u.sdu.image[com] = BitVec.allOnes 52) ∧
        (s.psc.ign = false →
          (∀ c : Fin 8, (u.channel c).fresh = true ∧ (u.channel c).freshTimer = none ∧
            ((s.channel c).state = .unhomed → (u.channel c).state = .unhomed)) ∧
          (∀ n : Fin 53, (u.causeOf n).state = .clear) ∧ (∀ l : Fin 48, u.ttu.lamps[l].lit = false) ∧
          u.dtu.snapTimer = some (instant t s + snapshotInterval u) ∧ u.sdu.panel = .undriven ∧
          ∀ com : Fin 4, u.sdu.image[com] = 0) ∧
        (s.nvs.cal = none → u.nvs.calPtr ≤ 256 ∧
          (∀ r, u.nvs.calPtr ≤ r → r < 256 → Memory.blank s.nvs.array (calAddr r) 16 = true) ∧
          ∀ r, u.nvs.calPtr = r + 1 → Memory.blank s.nvs.array (calAddr r) 16 = false) ∧
        (s.nvs.odo = none → ∀ blank : Nat → Bool, (∀ q, blank q = Memory.blank s.nvs.array (odoAddr q) 8) →
          (∀ i, i < 4096 → ∀ bs, OdoWins s i bs → u.nvs.odoSeq = (word16 bs 4 + 1) % 65536 ∧
            (∀ p, FirstBlankFrom blank 4096 (i + 1) p → u.nvs.odoPtr = p) ∧
            ((∀ q, q < 4096 → blank q = false) → u.nvs.odoPtr = (i / 512 + 1) % 8 * 512)) ∧
          ((∀ q, q < 4096 → ∀ bs, storedRecord s (odoAddr q) 8 = some bs → validOdo bs = false) → u.nvs.odoSeq = 0 ∧
            (∀ p, FirstBlankFrom blank 4096 0 p → u.nvs.odoPtr = p) ∧
            ((∀ q, q < 4096 → blank q = false) → u.nvs.odoPtr = 0)) ∧
          (StoreIdle s → ∀ sec, 2 ≤ sec → sec ≤ 9 →
            DueRight u s sec (odoSector u.nvs.odoPtr) (∀ q, q < 4096 → blank q = false))) ∧
        (s.psc.ign = true → StoreIdle s → s.nvs.flight = .none →
          ∀ blank : Nat → Bool, (∀ q, blank q = Memory.blank s.nvs.array (snapAddr q) 256) →
          (∀ j, j < 64 → ∀ bs, SnapWins s j bs → u.nvs.snapSeq = word32 bs 0 + 1 ∧
            (∀ p, FirstBlankFrom blank 64 (j + 1) p → u.nvs.snapPtr = p) ∧
            ((∀ q, q < 64 → blank q = false) → u.nvs.snapPtr = (j / 16 + 1) % 4 * 16)) ∧
          ((∀ q, q < 64 → ∀ bs, storedRecord s (snapAddr q) 256 = some bs → validSnap bs = false) → u.nvs.snapSeq = 1 ∧
            (∀ p, FirstBlankFrom blank 64 0 p → u.nvs.snapPtr = p) ∧
            ((∀ q, q < 64 → blank q = false) → u.nvs.snapPtr = 0)) ∧
          (∀ sec, 10 ≤ sec → sec ≤ 13 →
            DueRight u s sec (snapSector u.nvs.snapPtr) (∀ q, q < 64 → blank q = false)) ∧
          (s.psc.low = false →
            (∀ sec, sec < 14 → isDue u sec = true → (∀ r, r < sec → isDue u r = false) → u.nvs.flight = .erase
              { sector := sec, forSets := false, failures := 0, startedAt := instant t s, remaining := 40000 }) ∧
            ((∀ sec, sec < 14 → isDue u sec = false) → u.nvs.flight = .none))) ∧
        (∀ i, i < 4096 → ∀ bs, storedRecord s (odoAddr i) 8 = some bs → validOdo bs = true →
          word32 bs 0 ≤ u.spd.odometer) ∧
        (u.spd.odometer = 0 ∨ ∃ i, i < 4096 ∧ ∃ bs, storedRecord s (odoAddr i) 8 = some bs ∧ validOdo bs = true ∧
          word32 bs 0 = u.spd.odometer) ∧
        (∀ r, r < 256 → ∀ bs, storedCal s r = some bs → validCal bs = true →
          (∀ q, q < 256 → r < q → ∀ cs, storedCal s q = some cs → validCal cs = false) →
          u.nvs.pulse = word16 bs 0 ∧ (u.nvs.locked = true ↔ word16 bs 2 = 2)) ∧
        ((∀ r, r < 256 → ∀ bs, storedCal s r = some bs → validCal bs = false) →
          u.nvs.pulse = 8000 ∧ u.nvs.locked = false) ∧
        (u.nvs.loadDefaulted = true ↔ validImage (arrayBytes s 0 4096) = false) ∧
        (u.nvs.loadDefaulted = false → ImageLoaded u (arrayBytes s 0 4096)) ∧
        (∀ j, j < 64 → ∀ bs, storedRecord s (snapAddr j) 256 = some bs → validSnap bs = true →
          (∀ q, q < 64 → q ≠ j → ∀ cs, storedRecord s (snapAddr q) 256 = some cs → validSnap cs = true →
            word32 cs 0 < word32 bs 0) → s.spd.moving = false →
          u.spd.tripA = word32 bs 16 ∧ u.spd.tripB = word32 bs 20 ∧ u.dtu.day = word16 bs 4 ∧
            u.dtu.minute = word16 bs 6 ∧ u.dtu.second = (bs.getD 8 0).toNat ∧ u.dtu.lastDay = word16 bs 4 ∧
            u.dtu.lastMinute = word16 bs 6 ∧
            Restored u 0 ((bs.drop 32).take 32) ∧ Restored u 1 ((bs.drop 64).take 32)) ∧
        ((∀ j, j < 64 → ∀ bs, storedRecord s (snapAddr j) 256 = some bs → validSnap bs = false) → s.spd.moving = false →
          u.spd.tripA = s.spd.tripA ∧ u.spd.tripB = s.spd.tripB ∧ u.dtu.day = s.dtu.day ∧
            u.dtu.minute = s.dtu.minute ∧ u.dtu.second = s.dtu.second ∧ u.dtu.lastDay = s.dtu.lastDay ∧
            u.dtu.lastMinute = s.dtu.lastMinute ∧ ∀ i : Fin 2, AccountKept u s i ∧
              (u.driver i).present = (s.driver i).present ∧ (u.driver i).report = (s.driver i).report ∧
              (u.driver i).activity = (s.driver i).activity ∧ (u.driver i).source = (s.driver i).source) ∧
        u.dtu.timeValid = s.dtu.timeValid ∧ (∀ i : Fin 2, RemainingRight u i) ∧
        (u.nvs.loadDefaulted = true → u.nvs.bitmap = 0 ∧ (∀ k : Fin 15, u.nvs.loadControl[k] = 1) ∧
          ∀ id : Fin 15, ∀ i, i < sectionSize (id.val + 1) →
            hostByte u (sectionAddr (id.val + 1) + i) = (defaultSection (id.val + 1)).getD i 0) ∧
        (slotFilled s (cursorSlot s) = false ∨ s.lnk.backlog = [] →
          Recorded u s .loadOutcome ([u8 (flag u.nvs.loadDefaulted)] ++ le 2 u.nvs.bitmap ++
            le 2 (calPointer s) ++ le 2 (loadOdo (loadCal s)).nvs.odoPtr ++ [u8 (flag (latestSnap s).isSome)]))) ∧
    ∀ (s : State) (t : Nat) (order : List Block), Awake s → s.psc.power ≠ .loading →
      exec (.loadingEnd t order) s = .next (tick t s)

/-- IGN takes a raw level that has stood for 50 ms (R195). In STANDBY that enters RUN through PROOF (R197): a POWER record, a
homing or a return to TRACKING per channel (R47), a full proof of the lamps and the panel (R68, R77, R137), the line UNKNOWN
with its LINE_STATE record of the reason WAKE (R92, R93), the snapshot timer stopped (R121). In RUN it enters STANDBY in
whatever order the blocks react (R194): a SNAP request is placed, which waits or whose program starts at once with the content as
it was before or after SPD reacted (R120, R154, R155), every cause CLEAR, every lamp off, the queue and the sounder empty (R78),
the speed 0 and not moving (R21), the needles parking (R48), the panel undriven (R138). The proof timer's expiry enters NORMAL
(R198). In LOADING IGN only takes its level. The lamp sinks, the sounder and the panel's lines follow (R63, R70, R124). A POWER
record standing ahead of the blocks' records, freshness that starts at a RUN entry by the source setting read there, and a SNAP
that passes a SETS that waits, are the model's choices (DEDUCED: log entries 13, 21 and 51), and so is PSC's place among the blocks
that react to a RUN entry (DESIGN CHOICE: log entry 53). -/
def Obligations.IgnitionMovesThePowerState : Prop :=
  (∀ (s : State) (t : Nat) (on : Bool), Awake s →
      ∃ u, exec (.ignInputChange t on) s = .next u ∧ OnlyChanges [.psc] (tick t s) u ∧
        u.psc = { s.psc with
          ignRaw := on, ignRun := if on = s.psc.ign then none else some (s.psc.ignRun.getD (instant t s)) }) ∧
    (∀ (s : State) (t : Nat), Awake s → s.psc.power = .loading → lasted (instant t s) 50000 s.psc.ignRun = true →
      ∃ u, exec (.ignTakesNewLevelInLoading t) s = .next u ∧ OnlyChanges [.psc] (tick t s) u ∧
        u.psc = { s.psc with ign := !s.psc.ign, ignRun := none }) ∧
    (∀ (s : State) (t : Nat) (order : List Block), Awake s → s.psc.power = .standby → s.psc.ign = false →
      lasted (instant t s) 50000 s.psc.ignRun = true →
      ∃ u, exec (.runEntry t order) s = .next u ∧
        OnlyChanges [.psc, .gau, .ttu, .tlr, .dtu, .sdu, .nvs, .journal] (tick t s) u ∧
        u.psc = { s.psc with
          power := .proof, ign := true, ignRun := none, proofTimer := some (instant t s + proofTime s)
          lowAssert := (s.psc.low && s.psc.lowTimer.isNone) } ∧
        Recorded u s .power [u8 1, u8 1, u8 3, u8 1, u8 (flag s.psc.low), u8 s.psc.cause.code] ∧
        (∀ c : Fin 8,
          ((s.channel c).state = .unhomed ∨ (s.channel c).state = .parked → (u.channel c).state = .homing ∧
            (u.channel c).aMax = sweepLimit s c ∧ (u.channel c).count = sweepLimit s c + homeOverrun s c ∧
            (u.channel c).sweepDue = sweepOnProof s c ∧ (u.channel c).parkDue = (s.channel c).parkDue) ∧
          ((s.channel c).state = .homing → (u.channel c).state = .homing ∧ (u.channel c).count = (s.channel c).count ∧
            (u.channel c).sweepDue = sweepOnProof s c ∧ (u.channel c).parkDue = false) ∧
          ((s.channel c).state = .parking → (u.channel c).state = .tracking ∧ (u.channel c).pos = (s.channel c).pos) ∧
          ((s.channel c).state = .fault → (u.channel c).state = .fault) ∧
          (gaugeSource s c = .host → (s.channel c).mode ≠ .hold → (u.channel c).fresh = true ∧
            (u.channel c).freshTimer = (if freshness s c = 0 then none else some (instant t s + freshness s c)))) ∧
        u.ttu.blink = 0 ∧ (∀ l : Fin 48, u.ttu.lamps[l].hold = lampProofHold s l ∧ LampFollows u l) ∧
        u.tlr.line = .unknown ∧ u.tlr.reference = instant t s ∧
        u.tlr.lineTimer = some (instant t s + lineTimeout u) ∧ u.dtu.line = (if s.tlr.line = .unknown then s.dtu.line else .unknown) ∧
        (s.tlr.line ≠ .unknown → Posted u s .lineState ([u8 0, u8 s.tlr.line.code, u8 2] ++ le 2 (match s.tlr.lastFrame with
          | some f => min 65535 ((instant t s - f.1) / 100000)
          | none => 65535))) ∧
        (s.tlr.line = .unknown → NotPosted u s .lineState) ∧ DrivingRight u ∧ ImpliedRight u ∧
        (∀ l : Fin 48, lampSink u l = true ↔
          u.ttu.lamps[l].lit = true ∧ 0 ∈ onPhases u.ttu.lamps[l].pattern) ∧
        u.dtu.snapTimer = none ∧ u.sdu.panel = .allOn ∧ u.sdu.blinkOn = true ∧
        (∀ com : Fin 4, u.sdu.image[com] = BitVec.allOnes 52)) ∧
    (∀ (s : State) (t : Nat) (order : List Block), Awake s → s.psc.power = .proof ∨ s.psc.power = .normal →
      s.psc.ign = true → lasted (instant t s) 50000 s.psc.ignRun = true →
      ∃ u, exec (.standbyEntry t order) s = .next u ∧
        OnlyChanges [.psc, .spd, .gau, .ttu, .tlr, .dtu, .sdu, .nvs, .journal, .orders] (tick t s) u ∧
        u.psc = { s.psc with power := .standby, ign := false, ignRun := none, proofTimer := none, lowAssert := false } ∧
        Recorded u s .power [u8 2, u8 3, u8 s.psc.power.code, u8 0, u8 (flag s.psc.low), u8 s.psc.cause.code] ∧
        (∀ n : Fin 53, u.causeOf n = { s.causeOf n with state := .clear }) ∧
        u.ttu.queue = [] ∧ u.ttu.playing = none ∧ u.ttu.silence = none ∧ u.ttu.lampTest = none ∧
        u.ttu.lampFault = false ∧
        (∀ l : Fin 48, u.ttu.lamps[l] =
          { s.ttu.lamps[l] with lit := false, output := false, openRun := 0, hold := false, pattern := u.ttu.lamps[l].pattern }) ∧
        u.spd = { s.spd with
          gate := none, gateState := .idle, vPub := 0, hold := 0, stallTimer := none, confirmRun := none
          moving := false, overspeed := false, noise := false } ∧
        (s.spd.moving = true → u.dtu.moving = false) ∧
        (∀ c : Fin 8, (u.channel c).fresh = true ∧ (u.channel c).freshTimer = none ∧ (u.channel c).warning = false ∧
          (gaugeSource s c = .speed → (u.channel c).x = 0) ∧
          ((s.channel c).state = .tracking ∨ (s.channel c).state = .stale ∨ (s.channel c).state = .sweep →
            (u.channel c).state = .parking) ∧
          ((s.channel c).state = .homing → (u.channel c).state = .homing ∧ (u.channel c).parkDue = true ∧
            (u.channel c).sweepDue = false)) ∧
        u.tlr.line = s.tlr.line ∧ u.tlr.lostAssert = false ∧
        u.tlr.lineTimer = s.tlr.lineTimer.map (fun _ => s.tlr.reference + lineTimeout u) ∧
        u.dtu.snapTimer = some (instant t s + snapshotInterval s) ∧
        (s.psc.low = true → u.nvs.snap.isSome = true) ∧
        (s.nvs.snap.isSome = true →
          u.nvs = { s.nvs with storeFault := false } ∧ ∀ j : Fin 8, u.orderSlot j = s.orderSlot j) ∧
        (s.nvs.snap = none → s.nvs.flight ≠ .none ∨ s.nvs.active = false ∨ s.psc.low = true →
          u.nvs = { s.nvs with snap := some ⟨0, 0⟩, storeFault := false } ∧
            ∀ j : Fin 8, u.orderSlot j = s.orderSlot j) ∧
        (s.nvs.snap = none → s.nvs.flight = .none → s.nvs.active = true → s.psc.low = false → s.nvs.odo = none →
          s.nvs.cal = none → isDue s (snapSector s.nvs.snapPtr) = false →
          Memory.blank s.nvs.array (snapAddr s.nvs.snapPtr) 256 = true →
          (∀ j : Fin 8, u.orderSlot j = { s.orderSlot j with progress :=
            if (s.orderSlot j).progress = .snapWaiting then .snapArmed else (s.orderSlot j).progress }) ∧
            u.nvs = { s.nvs with snapSeq := s.nvs.snapSeq + 1, storeFault := false, flight := u.nvs.flight } ∧
            ∃ p, u.nvs.flight = .program p ∧ (p.bytes = snapRecord s ∨ p.bytes = snapRecord { u with nvs := s.nvs }) ∧
              p = { kind := .snap, slot := s.nvs.snapPtr, addr := snapAddr s.nvs.snapPtr, bytes := p.bytes
                    startedAt := instant t s, endsAt := instant t s + 3840, failures := 0, content := ⟨0, false⟩ }) ∧
        ((∀ l : Fin 48, lampSink u l = false) ∧ sounderTone u = none ∧
          (∀ phase com : Fin 4, comLevel u phase com = .v0) ∧
          ∀ (phase : Fin 4) (seg : Fin 52), segLevel u phase seg = .v0) ∧
        u.sdu.panel = .undriven ∧ (∀ com : Fin 4, u.sdu.image[com] = 0) ∧
        (StoreLaw s → u.nvs.storeFault = false)) ∧
    (∀ (s : State) (t : Nat), Awake s → s.psc.power = .proof → expired (instant t s) s.psc.proofTimer = true →
      ∃ u, exec (.proofEnd t) s = .next u ∧ OnlyChanges [.psc, .ttu, .sdu, .journal] (tick t s) u ∧
        u.psc = { s.psc with power := .normal, proofTimer := none } ∧ u.sdu.panel = .composed ∧
        Recorded u s .power [u8 3, u8 2, u8 1, u8 (flag s.psc.ign), u8 (flag s.psc.low), u8 s.psc.cause.code] ∧
        (s.ttu.blink < 8 → ∀ l : Fin 48, LampFollows u l) ∧ (∀ n : Fin 53, u.causeOf n = s.causeOf n) ∧
        (s.ttu.queue = [] → u.ttu.playing = s.ttu.playing) ∧
        (s.psc.low = false → s.ttu.silence = none → s.ttu.playing = none → ∀ q qs, s.ttu.queue = q :: qs →
          u.ttu.queue = qs ∧ u.ttu.playing = some
            { request := q, pattern := chimePattern s q.pattern, onCount := 1, isOn := true
              endsAt := instant t s + 10000 * (chimePattern s q.pattern).onTime })) ∧
    (∀ (s : State) (t : Nat) (order : List Block), Awake s → lasted (instant t s) 50000 s.psc.ignRun = false →
      exec (.ignTakesNewLevelInLoading t) s = .next (tick t s) ∧ exec (.runEntry t order) s = .next (tick t s) ∧
        exec (.standbyEntry t order) s = .next (tick t s)) ∧
    (∀ (s : State) (t : Nat) (order : List Block), Awake s →
      (s.psc.power ≠ .loading → exec (.ignTakesNewLevelInLoading t) s = .next (tick t s)) ∧
        (s.psc.power ≠ .standby ∨ s.psc.ign = true → exec (.runEntry t order) s = .next (tick t s)) ∧
        (s.psc.power = .loading ∨ s.psc.power = .standby ∨ s.psc.ign = false →
          exec (.standbyEntry t order) s = .next (tick t s))) ∧
    ∀ (s : State) (t : Nat), Awake s → s.psc.power ≠ .proof ∨ expired (instant t s) s.psc.proofTimer = false →
      exec (.proofEnd t) s = .next (tick t s)

/-- The LOW flag follows a supply indication that has stood for 2 ms, in every power state (R199). Its setting posts a POWER
record, starts the 500 ms low-supply timer, returns a playing chime to the queue (R76) and leaves NVS nothing but a program:
an erase, suspended or not, is abandoned, and SETS returns to the request set (R158); its clearing stops the timer and clears
cause 51 (R200), whose request goes, and the head of the queue starts at once, or waits for the silence timer (R73, R76). The
timer's expiry sets the assertion, which in RUN raises cause 51. LOW moves no power state and no needle. A POWER record standing
ahead of the CAUSE_CHANGE of cause 51 is the model's choice (DEDUCED: log entry 13). -/
def Obligations.LowSupply : Prop :=
  (∀ (s : State) (t : Nat) (low : Bool), Awake s →
      ∃ u, exec (.supplyIndicationChange t low) s = .next u ∧ OnlyChanges [.psc] (tick t s) u ∧
        u.psc = { s.psc with
          supplyLow := low, supplyRun := if low = s.psc.low then none else some (s.psc.supplyRun.getD (instant t s)) }) ∧
    (∀ (s : State) (t : Nat), Awake s → s.psc.low = false → lasted (instant t s) 2000 s.psc.supplyRun = true →
      ∃ u, exec (.lowSet t) s = .next u ∧
        OnlyChanges [.psc, .ttu, .nvs, .array, .journal, .freeCount] (tick t s) u ∧
        u.psc = { s.psc with low := true, supplyRun := none, lowTimer := some (instant t s + 500000) } ∧
        Recorded u s .power
          [u8 4, u8 s.psc.power.code, u8 s.psc.power.code, u8 (flag s.psc.ign), u8 1, u8 s.psc.cause.code] ∧
        (∀ n : Fin 53, (u.causeOf n).state = (s.causeOf n).state) ∧ u.ttu.playing = none ∧
        (s.ttu.playing = none → u.ttu = s.ttu) ∧
        (∀ p, s.ttu.playing = some p → u.ttu.silence = some (instant t s + 100000) ∧
          (s.ttu.queue.length ≤ 15 → p.request ∈ u.ttu.queue ∧ u.ttu.queue.length = s.ttu.queue.length + 1 ∧
            ∀ q ∈ s.ttu.queue, q ∈ u.ttu.queue)) ∧
        (s.nvs.flight = .none → u.nvs = s.nvs) ∧
        (∀ p, s.nvs.flight = .program p → u.nvs = s.nvs) ∧
        (∀ e, s.nvs.flight = .erase e → u.nvs.flight = .none ∧
          (MemoriesCanonical s → ∀ a, (a < 4096 * e.sector ∨ 4096 * e.sector + 4096 ≤ a) →
            arrayByte u a = arrayByte s a) ∧
          u.nvs = { s.nvs with
            flight := .none, array := u.nvs.array
            sets := if e.forSets then some ⟨e.failures, 0⟩ else s.nvs.sets }) ∧
        (∀ e p, s.nvs.flight = .suspended e p → u.nvs.flight = .program p ∧
          (MemoriesCanonical s → ∀ a, (a < 4096 * e.sector ∨ 4096 * e.sector + 4096 ≤ a) →
            arrayByte u a = arrayByte s a) ∧
          u.nvs = { s.nvs with
            flight := .program p, array := u.nvs.array
            sets := if e.forSets then some ⟨e.failures, 0⟩ else s.nvs.sets })) ∧
    (∀ (s : State) (t : Nat) (order : List Block), Awake s → s.psc.low = true →
      lasted (instant t s) 2000 s.psc.supplyRun = true →
      ∃ u, exec (.lowClear t order) s = .next u ∧ OnlyChanges [.psc, .ttu, .nvs, .orders, .journal] (tick t s) u ∧
        u.psc = { s.psc with low := false, supplyRun := none, lowTimer := none, lowAssert := false } ∧
        Recorded u s .power
          [u8 5, u8 s.psc.power.code, u8 s.psc.power.code, u8 (flag s.psc.ign), u8 0, u8 s.psc.cause.code] ∧
        (s.nvs.storeFault = true → (∀ n : Fin 53, n ≠ 51 → (u.causeOf n).state = (s.causeOf n).state)) ∧
        (s.psc.lowAssert = true → inRun s = true → u.causeOf 51 = { s.causeOf 51 with state := clearedState s 51 }) ∧
        (s.psc.lowAssert = false → (u.causeOf 51).state = (s.causeOf 51).state) ∧
        (s.psc.lowAssert = true → inRun s = true → ChimeLaw s → ∀ r ∈ requests u, r.cause ≠ 51) ∧
        (s.ttu.playing = none → s.nvs.storeFault = true ∨ StoreIdle s →
          (s.psc.power ≠ .normal ∨ s.ttu.silence ≠ none → u.ttu.playing = none ∧ u.ttu.silence = s.ttu.silence ∧
            ((∀ r ∈ s.ttu.queue, r.cause ≠ 51) → u.ttu.queue = s.ttu.queue)) ∧
          ∀ q qs, s.psc.power = .normal → s.ttu.silence = none → s.ttu.queue = q :: qs → q.cause ≠ 51 →
            u.ttu.playing = some
              { request := q, pattern := chimePattern s q.pattern, onCount := 1, isOn := true
                endsAt := instant t s + 10000 * (chimePattern s q.pattern).onTime } ∧
            ((∀ r ∈ qs, r.cause ≠ 51) → u.ttu.queue = qs))) ∧
    (∀ (s : State) (t : Nat), Awake s → expired (instant t s) s.psc.lowTimer = true →
      ∃ u, exec (.lowSupplyTimerExpiry t) s = .next u ∧ OnlyChanges [.psc, .ttu, .journal] (tick t s) u ∧
        u.psc = { s.psc with lowTimer := none, lowAssert := true } ∧
        (inRun s = false ∨ s.psc.lowAssert = true → OnlyChanges [.psc] (tick t s) u) ∧
        (inRun s = true → s.psc.lowAssert = false → (s.causeOf 51).state = .clear ∨ (s.causeOf 51).state = .held →
          (u.causeOf 51).state = .active ∧ (u.causeOf 51).cls = urgencyClass s (causeTag s 51) ∧
            Recorded u s .causeChange [u8 51, u8 1, u8 (s.causeOf 51).state.code,
              u8 (urgencyClass s (causeTag s 51)), u8 0, u8 0])) ∧
    (∀ (s : State) (t : Nat), Awake s → s.psc.low = true ∨ lasted (instant t s) 2000 s.psc.supplyRun = false →
      exec (.lowSet t) s = .next (tick t s)) ∧
    (∀ (s : State) (t : Nat) (order : List Block), Awake s →
      s.psc.low = false ∨ lasted (instant t s) 2000 s.psc.supplyRun = false →
      exec (.lowClear t order) s = .next (tick t s)) ∧
    ∀ (s : State) (t : Nat), Awake s → expired (instant t s) s.psc.lowTimer = false →
      exec (.lowSupplyTimerExpiry t) s = .next (tick t s)

/-! ### What every command keeps -/

/-- Both memories keep their canonical form, and LNK keeps R172 to R175: the cursor and the post counter in their ranges, at
most one backlog entry per kind, and an empty backlog while the cursor slot is free. -/
def Obligations.EveryStepKeepsTheMemoriesAndTheBacklog : Prop :=
  ∀ s u : State, step s = .next u → (MemoriesCanonical s → MemoriesCanonical u) ∧ (BacklogLaw s → BacklogLaw u)

/-- Every step keeps R72: at most 16 requests wait, one at most per cause, each of a cause in ACTIVE. -/
def Obligations.EveryStepKeepsTheChimeLaw : Prop :=
  ∀ s u : State, step s = .next u → ChimeLaw s → ChimeLaw u

/-- Every step keeps R148, R155 and R3: at most one CAL request stands and none while the lock is LOCKED or in LOADING, and a
store that may start with nothing in flight has no work that waits; so a LOCKED part keeps
its lock and its pulse constant in every step but the begin and the end of a reset and the end of LOADING; every pulse
constant lies in its range, and S below it (R15). -/
def Obligations.EveryStepKeepsTheCalibration : Prop :=
  (∀ s u : State, step s = .next u → (CalibrationLaw s → CalibrationLaw u) ∧ (SpeedRanges s → SpeedRanges u) ∧
      (StoreLaw s → StoreLaw u)) ∧
    ∀ (s u : State) (c : Instr), exec c s = .next u → CalibrationLaw s → s.nvs.locked = true →
      (∀ t source, c ≠ .resetBegin t source) → (∀ t pins, c ≠ .reset t pins) →
        (∀ t order, c ≠ .loadingEnd t order) → Part.calibration.same s u

/-- Every step keeps R101, R111 and R179: continuous ≤ daily ≤ weekly drive in every record, an IMPLIED source only while the
moving flag is set, at most one slot in DRIVE (but for the end of LOADING, which restores what a snapshot holds), and an
order slot IN_PROGRESS exactly while its stamp differs from its echo. It keeps the assertions of causes 45 to 49 in RUN
(R106, R114), the line-lost assertion and cause 44 (R92), and a channel on SPEED or OFF fresh and not STALE (R28; its source is
the one of the last filter event: log entry 42). -/
def Obligations.EveryStepKeepsTheAccountsAndTheOrders : Prop :=
  (∀ s u : State, step s = .next u →
      (DriveLaw s → DriveLaw u) ∧ (ImpliedLaw s → ImpliedLaw u) ∧ (MemoriesCanonical s → OrderLaw s → OrderLaw u) ∧
        (AssertionLaw s → AssertionLaw u) ∧ (LineLaw s → LineLaw u) ∧ (FreshLaw s → FreshLaw u)) ∧
    ∀ (s u : State) (c : Instr), exec c s = .next u → OneDriver s → (∀ t order, c ≠ .loadingEnd t order) → OneDriver u

/-- The state right after reset meets every law that the steps keep. -/
def Obligations.ResetMeetsTheLaws : Prop :=
  MemoriesCanonical State.reset ∧ BacklogLaw State.reset ∧ ChimeLaw State.reset ∧ CalibrationLaw State.reset ∧
    SpeedRanges State.reset ∧ DriveLaw State.reset ∧ ImpliedLaw State.reset ∧ OneDriver State.reset ∧
    OrderLaw State.reset ∧ AssertionLaw State.reset ∧ LineLaw State.reset ∧ FreshLaw State.reset ∧ StoreLaw State.reset

end
end

