-- ==== Sys2Proof/Laws/State.lean ====
section
/-! SUPPORT. One lemma per field per update of State, and what the indexed updates read back. -/

namespace Sys2Proof.Machine

@[simp] theorem State.setPsc_now (s : State) (x : Psc) : (s.setPsc x).now = s.now := rfl
@[simp] theorem State.setPsc_psc (s : State) (x : Psc) : (s.setPsc x).psc = x := rfl
@[simp] theorem State.setPsc_spd (s : State) (x : Psc) : (s.setPsc x).spd = s.spd := rfl
@[simp] theorem State.setPsc_gau (s : State) (x : Psc) : (s.setPsc x).gau = s.gau := rfl
@[simp] theorem State.setPsc_ttu (s : State) (x : Psc) : (s.setPsc x).ttu = s.ttu := rfl
@[simp] theorem State.setPsc_tlr (s : State) (x : Psc) : (s.setPsc x).tlr = s.tlr := rfl
@[simp] theorem State.setPsc_dtu (s : State) (x : Psc) : (s.setPsc x).dtu = s.dtu := rfl
@[simp] theorem State.setPsc_sdu (s : State) (x : Psc) : (s.setPsc x).sdu = s.sdu := rfl
@[simp] theorem State.setPsc_nvs (s : State) (x : Psc) : (s.setPsc x).nvs = s.nvs := rfl
@[simp] theorem State.setPsc_lnk (s : State) (x : Psc) : (s.setPsc x).lnk = s.lnk := rfl
@[simp] theorem State.setPsc_host (s : State) (x : Psc) : (s.setPsc x).host = s.host := rfl
@[simp] theorem State.setPsc_freeCount (s : State) (x : Psc) : (s.setPsc x).freeCount = s.freeCount := rfl
@[simp] theorem State.setPsc_pending (s : State) (x : Psc) : (s.setPsc x).pending = s.pending := rfl

@[simp] theorem State.setSpd_now (s : State) (x : Spd) : (s.setSpd x).now = s.now := rfl
@[simp] theorem State.setSpd_psc (s : State) (x : Spd) : (s.setSpd x).psc = s.psc := rfl
@[simp] theorem State.setSpd_spd (s : State) (x : Spd) : (s.setSpd x).spd = x := rfl
@[simp] theorem State.setSpd_gau (s : State) (x : Spd) : (s.setSpd x).gau = s.gau := rfl
@[simp] theorem State.setSpd_ttu (s : State) (x : Spd) : (s.setSpd x).ttu = s.ttu := rfl
@[simp] theorem State.setSpd_tlr (s : State) (x : Spd) : (s.setSpd x).tlr = s.tlr := rfl
@[simp] theorem State.setSpd_dtu (s : State) (x : Spd) : (s.setSpd x).dtu = s.dtu := rfl
@[simp] theorem State.setSpd_sdu (s : State) (x : Spd) : (s.setSpd x).sdu = s.sdu := rfl
@[simp] theorem State.setSpd_nvs (s : State) (x : Spd) : (s.setSpd x).nvs = s.nvs := rfl
@[simp] theorem State.setSpd_lnk (s : State) (x : Spd) : (s.setSpd x).lnk = s.lnk := rfl
@[simp] theorem State.setSpd_host (s : State) (x : Spd) : (s.setSpd x).host = s.host := rfl
@[simp] theorem State.setSpd_freeCount (s : State) (x : Spd) : (s.setSpd x).freeCount = s.freeCount := rfl
@[simp] theorem State.setSpd_pending (s : State) (x : Spd) : (s.setSpd x).pending = s.pending := rfl

@[simp] theorem State.setGau_now (s : State) (x : Gau) : (s.setGau x).now = s.now := rfl
@[simp] theorem State.setGau_psc (s : State) (x : Gau) : (s.setGau x).psc = s.psc := rfl
@[simp] theorem State.setGau_spd (s : State) (x : Gau) : (s.setGau x).spd = s.spd := rfl
@[simp] theorem State.setGau_gau (s : State) (x : Gau) : (s.setGau x).gau = x := rfl
@[simp] theorem State.setGau_ttu (s : State) (x : Gau) : (s.setGau x).ttu = s.ttu := rfl
@[simp] theorem State.setGau_tlr (s : State) (x : Gau) : (s.setGau x).tlr = s.tlr := rfl
@[simp] theorem State.setGau_dtu (s : State) (x : Gau) : (s.setGau x).dtu = s.dtu := rfl
@[simp] theorem State.setGau_sdu (s : State) (x : Gau) : (s.setGau x).sdu = s.sdu := rfl
@[simp] theorem State.setGau_nvs (s : State) (x : Gau) : (s.setGau x).nvs = s.nvs := rfl
@[simp] theorem State.setGau_lnk (s : State) (x : Gau) : (s.setGau x).lnk = s.lnk := rfl
@[simp] theorem State.setGau_host (s : State) (x : Gau) : (s.setGau x).host = s.host := rfl
@[simp] theorem State.setGau_freeCount (s : State) (x : Gau) : (s.setGau x).freeCount = s.freeCount := rfl
@[simp] theorem State.setGau_pending (s : State) (x : Gau) : (s.setGau x).pending = s.pending := rfl

@[simp] theorem State.setTtu_now (s : State) (x : Ttu) : (s.setTtu x).now = s.now := rfl
@[simp] theorem State.setTtu_psc (s : State) (x : Ttu) : (s.setTtu x).psc = s.psc := rfl
@[simp] theorem State.setTtu_spd (s : State) (x : Ttu) : (s.setTtu x).spd = s.spd := rfl
@[simp] theorem State.setTtu_gau (s : State) (x : Ttu) : (s.setTtu x).gau = s.gau := rfl
@[simp] theorem State.setTtu_ttu (s : State) (x : Ttu) : (s.setTtu x).ttu = x := rfl
@[simp] theorem State.setTtu_tlr (s : State) (x : Ttu) : (s.setTtu x).tlr = s.tlr := rfl
@[simp] theorem State.setTtu_dtu (s : State) (x : Ttu) : (s.setTtu x).dtu = s.dtu := rfl
@[simp] theorem State.setTtu_sdu (s : State) (x : Ttu) : (s.setTtu x).sdu = s.sdu := rfl
@[simp] theorem State.setTtu_nvs (s : State) (x : Ttu) : (s.setTtu x).nvs = s.nvs := rfl
@[simp] theorem State.setTtu_lnk (s : State) (x : Ttu) : (s.setTtu x).lnk = s.lnk := rfl
@[simp] theorem State.setTtu_host (s : State) (x : Ttu) : (s.setTtu x).host = s.host := rfl
@[simp] theorem State.setTtu_freeCount (s : State) (x : Ttu) : (s.setTtu x).freeCount = s.freeCount := rfl
@[simp] theorem State.setTtu_pending (s : State) (x : Ttu) : (s.setTtu x).pending = s.pending := rfl

@[simp] theorem State.setTlr_now (s : State) (x : Tlr) : (s.setTlr x).now = s.now := rfl
@[simp] theorem State.setTlr_psc (s : State) (x : Tlr) : (s.setTlr x).psc = s.psc := rfl
@[simp] theorem State.setTlr_spd (s : State) (x : Tlr) : (s.setTlr x).spd = s.spd := rfl
@[simp] theorem State.setTlr_gau (s : State) (x : Tlr) : (s.setTlr x).gau = s.gau := rfl
@[simp] theorem State.setTlr_ttu (s : State) (x : Tlr) : (s.setTlr x).ttu = s.ttu := rfl
@[simp] theorem State.setTlr_tlr (s : State) (x : Tlr) : (s.setTlr x).tlr = x := rfl
@[simp] theorem State.setTlr_dtu (s : State) (x : Tlr) : (s.setTlr x).dtu = s.dtu := rfl
@[simp] theorem State.setTlr_sdu (s : State) (x : Tlr) : (s.setTlr x).sdu = s.sdu := rfl
@[simp] theorem State.setTlr_nvs (s : State) (x : Tlr) : (s.setTlr x).nvs = s.nvs := rfl
@[simp] theorem State.setTlr_lnk (s : State) (x : Tlr) : (s.setTlr x).lnk = s.lnk := rfl
@[simp] theorem State.setTlr_host (s : State) (x : Tlr) : (s.setTlr x).host = s.host := rfl
@[simp] theorem State.setTlr_freeCount (s : State) (x : Tlr) : (s.setTlr x).freeCount = s.freeCount := rfl
@[simp] theorem State.setTlr_pending (s : State) (x : Tlr) : (s.setTlr x).pending = s.pending := rfl

@[simp] theorem State.setDtu_now (s : State) (x : Dtu) : (s.setDtu x).now = s.now := rfl
@[simp] theorem State.setDtu_psc (s : State) (x : Dtu) : (s.setDtu x).psc = s.psc := rfl
@[simp] theorem State.setDtu_spd (s : State) (x : Dtu) : (s.setDtu x).spd = s.spd := rfl
@[simp] theorem State.setDtu_gau (s : State) (x : Dtu) : (s.setDtu x).gau = s.gau := rfl
@[simp] theorem State.setDtu_ttu (s : State) (x : Dtu) : (s.setDtu x).ttu = s.ttu := rfl
@[simp] theorem State.setDtu_tlr (s : State) (x : Dtu) : (s.setDtu x).tlr = s.tlr := rfl
@[simp] theorem State.setDtu_dtu (s : State) (x : Dtu) : (s.setDtu x).dtu = x := rfl
@[simp] theorem State.setDtu_sdu (s : State) (x : Dtu) : (s.setDtu x).sdu = s.sdu := rfl
@[simp] theorem State.setDtu_nvs (s : State) (x : Dtu) : (s.setDtu x).nvs = s.nvs := rfl
@[simp] theorem State.setDtu_lnk (s : State) (x : Dtu) : (s.setDtu x).lnk = s.lnk := rfl
@[simp] theorem State.setDtu_host (s : State) (x : Dtu) : (s.setDtu x).host = s.host := rfl
@[simp] theorem State.setDtu_freeCount (s : State) (x : Dtu) : (s.setDtu x).freeCount = s.freeCount := rfl
@[simp] theorem State.setDtu_pending (s : State) (x : Dtu) : (s.setDtu x).pending = s.pending := rfl

@[simp] theorem State.setSdu_now (s : State) (x : Sdu) : (s.setSdu x).now = s.now := rfl
@[simp] theorem State.setSdu_psc (s : State) (x : Sdu) : (s.setSdu x).psc = s.psc := rfl
@[simp] theorem State.setSdu_spd (s : State) (x : Sdu) : (s.setSdu x).spd = s.spd := rfl
@[simp] theorem State.setSdu_gau (s : State) (x : Sdu) : (s.setSdu x).gau = s.gau := rfl
@[simp] theorem State.setSdu_ttu (s : State) (x : Sdu) : (s.setSdu x).ttu = s.ttu := rfl
@[simp] theorem State.setSdu_tlr (s : State) (x : Sdu) : (s.setSdu x).tlr = s.tlr := rfl
@[simp] theorem State.setSdu_dtu (s : State) (x : Sdu) : (s.setSdu x).dtu = s.dtu := rfl
@[simp] theorem State.setSdu_sdu (s : State) (x : Sdu) : (s.setSdu x).sdu = x := rfl
@[simp] theorem State.setSdu_nvs (s : State) (x : Sdu) : (s.setSdu x).nvs = s.nvs := rfl
@[simp] theorem State.setSdu_lnk (s : State) (x : Sdu) : (s.setSdu x).lnk = s.lnk := rfl
@[simp] theorem State.setSdu_host (s : State) (x : Sdu) : (s.setSdu x).host = s.host := rfl
@[simp] theorem State.setSdu_freeCount (s : State) (x : Sdu) : (s.setSdu x).freeCount = s.freeCount := rfl
@[simp] theorem State.setSdu_pending (s : State) (x : Sdu) : (s.setSdu x).pending = s.pending := rfl

@[simp] theorem State.setNvs_now (s : State) (x : Nvs) : (s.setNvs x).now = s.now := rfl
@[simp] theorem State.setNvs_psc (s : State) (x : Nvs) : (s.setNvs x).psc = s.psc := rfl
@[simp] theorem State.setNvs_spd (s : State) (x : Nvs) : (s.setNvs x).spd = s.spd := rfl
@[simp] theorem State.setNvs_gau (s : State) (x : Nvs) : (s.setNvs x).gau = s.gau := rfl
@[simp] theorem State.setNvs_ttu (s : State) (x : Nvs) : (s.setNvs x).ttu = s.ttu := rfl
@[simp] theorem State.setNvs_tlr (s : State) (x : Nvs) : (s.setNvs x).tlr = s.tlr := rfl
@[simp] theorem State.setNvs_dtu (s : State) (x : Nvs) : (s.setNvs x).dtu = s.dtu := rfl
@[simp] theorem State.setNvs_sdu (s : State) (x : Nvs) : (s.setNvs x).sdu = s.sdu := rfl
@[simp] theorem State.setNvs_nvs (s : State) (x : Nvs) : (s.setNvs x).nvs = x := rfl
@[simp] theorem State.setNvs_lnk (s : State) (x : Nvs) : (s.setNvs x).lnk = s.lnk := rfl
@[simp] theorem State.setNvs_host (s : State) (x : Nvs) : (s.setNvs x).host = s.host := rfl
@[simp] theorem State.setNvs_freeCount (s : State) (x : Nvs) : (s.setNvs x).freeCount = s.freeCount := rfl
@[simp] theorem State.setNvs_pending (s : State) (x : Nvs) : (s.setNvs x).pending = s.pending := rfl

@[simp] theorem State.setLnk_now (s : State) (x : Lnk) : (s.setLnk x).now = s.now := rfl
@[simp] theorem State.setLnk_psc (s : State) (x : Lnk) : (s.setLnk x).psc = s.psc := rfl
@[simp] theorem State.setLnk_spd (s : State) (x : Lnk) : (s.setLnk x).spd = s.spd := rfl
@[simp] theorem State.setLnk_gau (s : State) (x : Lnk) : (s.setLnk x).gau = s.gau := rfl
@[simp] theorem State.setLnk_ttu (s : State) (x : Lnk) : (s.setLnk x).ttu = s.ttu := rfl
@[simp] theorem State.setLnk_tlr (s : State) (x : Lnk) : (s.setLnk x).tlr = s.tlr := rfl
@[simp] theorem State.setLnk_dtu (s : State) (x : Lnk) : (s.setLnk x).dtu = s.dtu := rfl
@[simp] theorem State.setLnk_sdu (s : State) (x : Lnk) : (s.setLnk x).sdu = s.sdu := rfl
@[simp] theorem State.setLnk_nvs (s : State) (x : Lnk) : (s.setLnk x).nvs = s.nvs := rfl
@[simp] theorem State.setLnk_lnk (s : State) (x : Lnk) : (s.setLnk x).lnk = x := rfl
@[simp] theorem State.setLnk_host (s : State) (x : Lnk) : (s.setLnk x).host = s.host := rfl
@[simp] theorem State.setLnk_freeCount (s : State) (x : Lnk) : (s.setLnk x).freeCount = s.freeCount := rfl
@[simp] theorem State.setLnk_pending (s : State) (x : Lnk) : (s.setLnk x).pending = s.pending := rfl

@[simp] theorem State.setHost_now (s : State) (x : Memory) : (s.setHost x).now = s.now := rfl
@[simp] theorem State.setHost_psc (s : State) (x : Memory) : (s.setHost x).psc = s.psc := rfl
@[simp] theorem State.setHost_spd (s : State) (x : Memory) : (s.setHost x).spd = s.spd := rfl
@[simp] theorem State.setHost_gau (s : State) (x : Memory) : (s.setHost x).gau = s.gau := rfl
@[simp] theorem State.setHost_ttu (s : State) (x : Memory) : (s.setHost x).ttu = s.ttu := rfl
@[simp] theorem State.setHost_tlr (s : State) (x : Memory) : (s.setHost x).tlr = s.tlr := rfl
@[simp] theorem State.setHost_dtu (s : State) (x : Memory) : (s.setHost x).dtu = s.dtu := rfl
@[simp] theorem State.setHost_sdu (s : State) (x : Memory) : (s.setHost x).sdu = s.sdu := rfl
@[simp] theorem State.setHost_nvs (s : State) (x : Memory) : (s.setHost x).nvs = s.nvs := rfl
@[simp] theorem State.setHost_lnk (s : State) (x : Memory) : (s.setHost x).lnk = s.lnk := rfl
@[simp] theorem State.setHost_host (s : State) (x : Memory) : (s.setHost x).host = x := rfl
@[simp] theorem State.setHost_freeCount (s : State) (x : Memory) : (s.setHost x).freeCount = s.freeCount := rfl
@[simp] theorem State.setHost_pending (s : State) (x : Memory) : (s.setHost x).pending = s.pending := rfl

@[simp] theorem tick_psc (t : Nat) (s : State) : (tick t s).psc = s.psc := rfl
@[simp] theorem tick_spd (t : Nat) (s : State) : (tick t s).spd = s.spd := rfl
@[simp] theorem tick_gau (t : Nat) (s : State) : (tick t s).gau = s.gau := rfl
@[simp] theorem tick_ttu (t : Nat) (s : State) : (tick t s).ttu = s.ttu := rfl
@[simp] theorem tick_tlr (t : Nat) (s : State) : (tick t s).tlr = s.tlr := rfl
@[simp] theorem tick_dtu (t : Nat) (s : State) : (tick t s).dtu = s.dtu := rfl
@[simp] theorem tick_sdu (t : Nat) (s : State) : (tick t s).sdu = s.sdu := rfl
@[simp] theorem tick_nvs (t : Nat) (s : State) : (tick t s).nvs = s.nvs := rfl
@[simp] theorem tick_lnk (t : Nat) (s : State) : (tick t s).lnk = s.lnk := rfl
@[simp] theorem tick_host (t : Nat) (s : State) : (tick t s).host = s.host := rfl
@[simp] theorem tick_freeCount (t : Nat) (s : State) : (tick t s).freeCount = s.freeCount := rfl
@[simp] theorem tick_pending (t : Nat) (s : State) : (tick t s).pending = s.pending := rfl
@[simp] theorem tick_now (t : Nat) (s : State) : (tick t s).now = max s.now t := rfl

/-! ### Indexed updates -/

@[simp] theorem State.setChannel_now (s : State) (i : Fin 8) (x : Channel) : (s.setChannel i x).now = s.now := rfl
@[simp] theorem State.setChannel_psc (s : State) (i : Fin 8) (x : Channel) : (s.setChannel i x).psc = s.psc := rfl
@[simp] theorem State.setChannel_spd (s : State) (i : Fin 8) (x : Channel) : (s.setChannel i x).spd = s.spd := rfl
@[simp] theorem State.setChannel_ttu (s : State) (i : Fin 8) (x : Channel) : (s.setChannel i x).ttu = s.ttu := rfl
@[simp] theorem State.setChannel_tlr (s : State) (i : Fin 8) (x : Channel) : (s.setChannel i x).tlr = s.tlr := rfl
@[simp] theorem State.setChannel_dtu (s : State) (i : Fin 8) (x : Channel) : (s.setChannel i x).dtu = s.dtu := rfl
@[simp] theorem State.setChannel_sdu (s : State) (i : Fin 8) (x : Channel) : (s.setChannel i x).sdu = s.sdu := rfl
@[simp] theorem State.setChannel_nvs (s : State) (i : Fin 8) (x : Channel) : (s.setChannel i x).nvs = s.nvs := rfl
@[simp] theorem State.setChannel_lnk (s : State) (i : Fin 8) (x : Channel) : (s.setChannel i x).lnk = s.lnk := rfl
@[simp] theorem State.setChannel_host (s : State) (i : Fin 8) (x : Channel) : (s.setChannel i x).host = s.host := rfl
@[simp] theorem State.setChannel_freeCount (s : State) (i : Fin 8) (x : Channel) : (s.setChannel i x).freeCount = s.freeCount := rfl
@[simp] theorem State.setChannel_pending (s : State) (i : Fin 8) (x : Channel) : (s.setChannel i x).pending = s.pending := rfl

@[simp] theorem State.setCause_now (s : State) (i : Fin 53) (x : Cause) : (s.setCause i x).now = s.now := rfl
@[simp] theorem State.setCause_psc (s : State) (i : Fin 53) (x : Cause) : (s.setCause i x).psc = s.psc := rfl
@[simp] theorem State.setCause_spd (s : State) (i : Fin 53) (x : Cause) : (s.setCause i x).spd = s.spd := rfl
@[simp] theorem State.setCause_gau (s : State) (i : Fin 53) (x : Cause) : (s.setCause i x).gau = s.gau := rfl
@[simp] theorem State.setCause_tlr (s : State) (i : Fin 53) (x : Cause) : (s.setCause i x).tlr = s.tlr := rfl
@[simp] theorem State.setCause_dtu (s : State) (i : Fin 53) (x : Cause) : (s.setCause i x).dtu = s.dtu := rfl
@[simp] theorem State.setCause_sdu (s : State) (i : Fin 53) (x : Cause) : (s.setCause i x).sdu = s.sdu := rfl
@[simp] theorem State.setCause_nvs (s : State) (i : Fin 53) (x : Cause) : (s.setCause i x).nvs = s.nvs := rfl
@[simp] theorem State.setCause_lnk (s : State) (i : Fin 53) (x : Cause) : (s.setCause i x).lnk = s.lnk := rfl
@[simp] theorem State.setCause_host (s : State) (i : Fin 53) (x : Cause) : (s.setCause i x).host = s.host := rfl
@[simp] theorem State.setCause_freeCount (s : State) (i : Fin 53) (x : Cause) : (s.setCause i x).freeCount = s.freeCount := rfl
@[simp] theorem State.setCause_pending (s : State) (i : Fin 53) (x : Cause) : (s.setCause i x).pending = s.pending := rfl

@[simp] theorem State.setDriver_now (s : State) (i : Fin 2) (x : Driver) : (s.setDriver i x).now = s.now := rfl
@[simp] theorem State.setDriver_psc (s : State) (i : Fin 2) (x : Driver) : (s.setDriver i x).psc = s.psc := rfl
@[simp] theorem State.setDriver_spd (s : State) (i : Fin 2) (x : Driver) : (s.setDriver i x).spd = s.spd := rfl
@[simp] theorem State.setDriver_gau (s : State) (i : Fin 2) (x : Driver) : (s.setDriver i x).gau = s.gau := rfl
@[simp] theorem State.setDriver_ttu (s : State) (i : Fin 2) (x : Driver) : (s.setDriver i x).ttu = s.ttu := rfl
@[simp] theorem State.setDriver_tlr (s : State) (i : Fin 2) (x : Driver) : (s.setDriver i x).tlr = s.tlr := rfl
@[simp] theorem State.setDriver_sdu (s : State) (i : Fin 2) (x : Driver) : (s.setDriver i x).sdu = s.sdu := rfl
@[simp] theorem State.setDriver_nvs (s : State) (i : Fin 2) (x : Driver) : (s.setDriver i x).nvs = s.nvs := rfl
@[simp] theorem State.setDriver_lnk (s : State) (i : Fin 2) (x : Driver) : (s.setDriver i x).lnk = s.lnk := rfl
@[simp] theorem State.setDriver_host (s : State) (i : Fin 2) (x : Driver) : (s.setDriver i x).host = s.host := rfl
@[simp] theorem State.setDriver_freeCount (s : State) (i : Fin 2) (x : Driver) : (s.setDriver i x).freeCount = s.freeCount := rfl
@[simp] theorem State.setDriver_pending (s : State) (i : Fin 2) (x : Driver) : (s.setDriver i x).pending = s.pending := rfl

@[simp] theorem State.setOrderSlot_now (s : State) (i : Fin 8) (x : OrderSlot) : (s.setOrderSlot i x).now = s.now := rfl
@[simp] theorem State.setOrderSlot_psc (s : State) (i : Fin 8) (x : OrderSlot) : (s.setOrderSlot i x).psc = s.psc := rfl
@[simp] theorem State.setOrderSlot_spd (s : State) (i : Fin 8) (x : OrderSlot) : (s.setOrderSlot i x).spd = s.spd := rfl
@[simp] theorem State.setOrderSlot_gau (s : State) (i : Fin 8) (x : OrderSlot) : (s.setOrderSlot i x).gau = s.gau := rfl
@[simp] theorem State.setOrderSlot_ttu (s : State) (i : Fin 8) (x : OrderSlot) : (s.setOrderSlot i x).ttu = s.ttu := rfl
@[simp] theorem State.setOrderSlot_tlr (s : State) (i : Fin 8) (x : OrderSlot) : (s.setOrderSlot i x).tlr = s.tlr := rfl
@[simp] theorem State.setOrderSlot_dtu (s : State) (i : Fin 8) (x : OrderSlot) : (s.setOrderSlot i x).dtu = s.dtu := rfl
@[simp] theorem State.setOrderSlot_sdu (s : State) (i : Fin 8) (x : OrderSlot) : (s.setOrderSlot i x).sdu = s.sdu := rfl
@[simp] theorem State.setOrderSlot_nvs (s : State) (i : Fin 8) (x : OrderSlot) : (s.setOrderSlot i x).nvs = s.nvs := rfl
@[simp] theorem State.setOrderSlot_host (s : State) (i : Fin 8) (x : OrderSlot) : (s.setOrderSlot i x).host = s.host := rfl
@[simp] theorem State.setOrderSlot_freeCount (s : State) (i : Fin 8) (x : OrderSlot) : (s.setOrderSlot i x).freeCount = s.freeCount := rfl
@[simp] theorem State.setOrderSlot_pending (s : State) (i : Fin 8) (x : OrderSlot) : (s.setOrderSlot i x).pending = s.pending := rfl

@[simp] theorem State.setChannel_gau_faultAssert (s : State) (i : Fin 8) (x : Channel) : (s.setChannel i x).gau.faultAssert = s.gau.faultAssert := rfl
@[simp] theorem State.setChannel_gau_staleAssert (s : State) (i : Fin 8) (x : Channel) : (s.setChannel i x).gau.staleAssert = s.gau.staleAssert := rfl

@[simp] theorem State.setCause_ttu_hostRecords (s : State) (i : Fin 53) (x : Cause) : (s.setCause i x).ttu.hostRecords = s.ttu.hostRecords := rfl
@[simp] theorem State.setCause_ttu_queue (s : State) (i : Fin 53) (x : Cause) : (s.setCause i x).ttu.queue = s.ttu.queue := rfl
@[simp] theorem State.setCause_ttu_playing (s : State) (i : Fin 53) (x : Cause) : (s.setCause i x).ttu.playing = s.ttu.playing := rfl
@[simp] theorem State.setCause_ttu_arrival (s : State) (i : Fin 53) (x : Cause) : (s.setCause i x).ttu.arrival = s.ttu.arrival := rfl
@[simp] theorem State.setCause_ttu_silence (s : State) (i : Fin 53) (x : Cause) : (s.setCause i x).ttu.silence = s.ttu.silence := rfl
@[simp] theorem State.setCause_ttu_blink (s : State) (i : Fin 53) (x : Cause) : (s.setCause i x).ttu.blink = s.ttu.blink := rfl
@[simp] theorem State.setCause_ttu_lamps (s : State) (i : Fin 53) (x : Cause) : (s.setCause i x).ttu.lamps = s.ttu.lamps := rfl
@[simp] theorem State.setCause_ttu_lampTest (s : State) (i : Fin 53) (x : Cause) : (s.setCause i x).ttu.lampTest = s.ttu.lampTest := rfl
@[simp] theorem State.setCause_ttu_testLeft (s : State) (i : Fin 53) (x : Cause) : (s.setCause i x).ttu.testLeft = s.ttu.testLeft := rfl
@[simp] theorem State.setCause_ttu_lampFault (s : State) (i : Fin 53) (x : Cause) : (s.setCause i x).ttu.lampFault = s.ttu.lampFault := rfl
@[simp] theorem State.setCause_ttu_ack (s : State) (i : Fin 53) (x : Cause) : (s.setCause i x).ttu.ack = s.ttu.ack := rfl
@[simp] theorem State.setCause_ttu_ackRaw (s : State) (i : Fin 53) (x : Cause) : (s.setCause i x).ttu.ackRaw = s.ttu.ackRaw := rfl
@[simp] theorem State.setCause_ttu_ackRun (s : State) (i : Fin 53) (x : Cause) : (s.setCause i x).ttu.ackRun = s.ttu.ackRun := rfl

@[simp] theorem State.setDriver_dtu_day (s : State) (i : Fin 2) (x : Driver) : (s.setDriver i x).dtu.day = s.dtu.day := rfl
@[simp] theorem State.setDriver_dtu_minute (s : State) (i : Fin 2) (x : Driver) : (s.setDriver i x).dtu.minute = s.dtu.minute := rfl
@[simp] theorem State.setDriver_dtu_second (s : State) (i : Fin 2) (x : Driver) : (s.setDriver i x).dtu.second = s.dtu.second := rfl
@[simp] theorem State.setDriver_dtu_secondStart (s : State) (i : Fin 2) (x : Driver) : (s.setDriver i x).dtu.secondStart = s.dtu.secondStart := rfl
@[simp] theorem State.setDriver_dtu_timeValid (s : State) (i : Fin 2) (x : Driver) : (s.setDriver i x).dtu.timeValid = s.dtu.timeValid := rfl
@[simp] theorem State.setDriver_dtu_lastDay (s : State) (i : Fin 2) (x : Driver) : (s.setDriver i x).dtu.lastDay = s.dtu.lastDay := rfl
@[simp] theorem State.setDriver_dtu_lastMinute (s : State) (i : Fin 2) (x : Driver) : (s.setDriver i x).dtu.lastMinute = s.dtu.lastMinute := rfl
@[simp] theorem State.setDriver_dtu_moving (s : State) (i : Fin 2) (x : Driver) : (s.setDriver i x).dtu.moving = s.dtu.moving := rfl
@[simp] theorem State.setDriver_dtu_line (s : State) (i : Fin 2) (x : Driver) : (s.setDriver i x).dtu.line = s.dtu.line := rfl
@[simp] theorem State.setDriver_dtu_crewConflict (s : State) (i : Fin 2) (x : Driver) : (s.setDriver i x).dtu.crewConflict = s.dtu.crewConflict := rfl
@[simp] theorem State.setDriver_dtu_motionPosted (s : State) (i : Fin 2) (x : Driver) : (s.setDriver i x).dtu.motionPosted = s.dtu.motionPosted := rfl
@[simp] theorem State.setDriver_dtu_snapTimer (s : State) (i : Fin 2) (x : Driver) : (s.setDriver i x).dtu.snapTimer = s.dtu.snapTimer := rfl
@[simp] theorem State.setDriver_dtu_assert45 (s : State) (i : Fin 2) (x : Driver) : (s.setDriver i x).dtu.assert45 = s.dtu.assert45 := rfl
@[simp] theorem State.setDriver_dtu_assert46 (s : State) (i : Fin 2) (x : Driver) : (s.setDriver i x).dtu.assert46 = s.dtu.assert46 := rfl
@[simp] theorem State.setDriver_dtu_assert47 (s : State) (i : Fin 2) (x : Driver) : (s.setDriver i x).dtu.assert47 = s.dtu.assert47 := rfl
@[simp] theorem State.setDriver_dtu_assert48 (s : State) (i : Fin 2) (x : Driver) : (s.setDriver i x).dtu.assert48 = s.dtu.assert48 := rfl
@[simp] theorem State.setDriver_dtu_assert49 (s : State) (i : Fin 2) (x : Driver) : (s.setDriver i x).dtu.assert49 = s.dtu.assert49 := rfl
@[simp] theorem State.setDriver_dtu_profileDefaulted (s : State) (i : Fin 2) (x : Driver) : (s.setDriver i x).dtu.profileDefaulted = s.dtu.profileDefaulted := rfl

@[simp] theorem State.setOrderSlot_lnk_port (s : State) (i : Fin 8) (x : OrderSlot) : (s.setOrderSlot i x).lnk.port = s.lnk.port := rfl
@[simp] theorem State.setOrderSlot_lnk_discard (s : State) (i : Fin 8) (x : OrderSlot) : (s.setOrderSlot i x).lnk.discard = s.lnk.discard := rfl
@[simp] theorem State.setOrderSlot_lnk_journal (s : State) (i : Fin 8) (x : OrderSlot) : (s.setOrderSlot i x).lnk.journal = s.lnk.journal := rfl
@[simp] theorem State.setOrderSlot_lnk_cursor (s : State) (i : Fin 8) (x : OrderSlot) : (s.setOrderSlot i x).lnk.cursor = s.lnk.cursor := rfl
@[simp] theorem State.setOrderSlot_lnk_postCounter (s : State) (i : Fin 8) (x : OrderSlot) : (s.setOrderSlot i x).lnk.postCounter = s.lnk.postCounter := rfl
@[simp] theorem State.setOrderSlot_lnk_backlog (s : State) (i : Fin 8) (x : OrderSlot) : (s.setOrderSlot i x).lnk.backlog = s.lnk.backlog := rfl
@[simp] theorem State.setOrderSlot_lnk_causeEcho (s : State) (i : Fin 8) (x : OrderSlot) : (s.setOrderSlot i x).lnk.causeEcho = s.lnk.causeEcho := rfl
@[simp] theorem State.setOrderSlot_lnk_gaugeEcho (s : State) (i : Fin 8) (x : OrderSlot) : (s.setOrderSlot i x).lnk.gaugeEcho = s.lnk.gaugeEcho := rfl
@[simp] theorem State.setOrderSlot_lnk_textEcho (s : State) (i : Fin 8) (x : OrderSlot) : (s.setOrderSlot i x).lnk.textEcho = s.lnk.textEcho := rfl

/-- Reading back a vector entry: the entry set, or the old one elsewhere. -/
theorem vset_get {α : Type} {n : Nat} (v : Vector α n) (i j : Fin n) (x : α) :
    (vset v i x)[j] = if j = i then x else v[j] := by
  unfold vset
  simp only [Fin.getElem_fin, Vector.getElem_set, Fin.ext_iff, eq_comm]

@[simp] theorem vset_get_same {α : Type} {n : Nat} (v : Vector α n) (i : Fin n) (x : α) : (vset v i x)[i] = x := by
  rw [vset_get]; simp

theorem vset_get_other {α : Type} {n : Nat} (v : Vector α n) {i j : Fin n} (x : α) (h : j ≠ i) :
    (vset v i x)[j] = v[j] := by
  rw [vset_get]; simp [h]

/-- Reading back a mapped vector. -/
@[simp] theorem vmap_get {α β : Type} {n : Nat} (f : Fin n → α → β) (v : Vector α n) (i : Fin n) :
    (vmap f v)[i] = f i v[i] := by
  simp [vmap]

theorem State.setChannel_channel (s : State) (i j : Fin 8) (x : Channel) :
    (s.setChannel i x).channel j = if j = i then x else s.channel j := vset_get _ _ _ _

@[simp] theorem State.setChannel_channel_same (s : State) (i : Fin 8) (x : Channel) : (s.setChannel i x).channel i = x := vset_get_same _ _ _

theorem State.setCause_causeOf (s : State) (i j : Fin 53) (x : Cause) :
    (s.setCause i x).causeOf j = if j = i then x else s.causeOf j := vset_get _ _ _ _

@[simp] theorem State.setCause_causeOf_same (s : State) (i : Fin 53) (x : Cause) : (s.setCause i x).causeOf i = x := vset_get_same _ _ _

theorem State.setDriver_driver (s : State) (i j : Fin 2) (x : Driver) :
    (s.setDriver i x).driver j = if j = i then x else s.driver j := vset_get _ _ _ _

@[simp] theorem State.setDriver_driver_same (s : State) (i : Fin 2) (x : Driver) : (s.setDriver i x).driver i = x := vset_get_same _ _ _

theorem State.setOrderSlot_orderSlot (s : State) (i j : Fin 8) (x : OrderSlot) :
    (s.setOrderSlot i x).orderSlot j = if j = i then x else s.orderSlot j := vset_get _ _ _ _

@[simp] theorem State.setOrderSlot_orderSlot_same (s : State) (i : Fin 8) (x : OrderSlot) : (s.setOrderSlot i x).orderSlot i = x := vset_get_same _ _ _

@[simp] theorem State.setPsc_channel (s : State) (x : Psc) (i : Fin 8) : (s.setPsc x).channel i = s.channel i := rfl
@[simp] theorem State.setPsc_causeOf (s : State) (x : Psc) (i : Fin 53) : (s.setPsc x).causeOf i = s.causeOf i := rfl
@[simp] theorem State.setPsc_driver (s : State) (x : Psc) (i : Fin 2) : (s.setPsc x).driver i = s.driver i := rfl
@[simp] theorem State.setPsc_orderSlot (s : State) (x : Psc) (i : Fin 8) : (s.setPsc x).orderSlot i = s.orderSlot i := rfl
@[simp] theorem State.setSpd_channel (s : State) (x : Spd) (i : Fin 8) : (s.setSpd x).channel i = s.channel i := rfl
@[simp] theorem State.setSpd_causeOf (s : State) (x : Spd) (i : Fin 53) : (s.setSpd x).causeOf i = s.causeOf i := rfl
@[simp] theorem State.setSpd_driver (s : State) (x : Spd) (i : Fin 2) : (s.setSpd x).driver i = s.driver i := rfl
@[simp] theorem State.setSpd_orderSlot (s : State) (x : Spd) (i : Fin 8) : (s.setSpd x).orderSlot i = s.orderSlot i := rfl
@[simp] theorem State.setGau_causeOf (s : State) (x : Gau) (i : Fin 53) : (s.setGau x).causeOf i = s.causeOf i := rfl
@[simp] theorem State.setGau_driver (s : State) (x : Gau) (i : Fin 2) : (s.setGau x).driver i = s.driver i := rfl
@[simp] theorem State.setGau_orderSlot (s : State) (x : Gau) (i : Fin 8) : (s.setGau x).orderSlot i = s.orderSlot i := rfl
@[simp] theorem State.setTtu_channel (s : State) (x : Ttu) (i : Fin 8) : (s.setTtu x).channel i = s.channel i := rfl
@[simp] theorem State.setTtu_driver (s : State) (x : Ttu) (i : Fin 2) : (s.setTtu x).driver i = s.driver i := rfl
@[simp] theorem State.setTtu_orderSlot (s : State) (x : Ttu) (i : Fin 8) : (s.setTtu x).orderSlot i = s.orderSlot i := rfl
@[simp] theorem State.setTlr_channel (s : State) (x : Tlr) (i : Fin 8) : (s.setTlr x).channel i = s.channel i := rfl
@[simp] theorem State.setTlr_causeOf (s : State) (x : Tlr) (i : Fin 53) : (s.setTlr x).causeOf i = s.causeOf i := rfl
@[simp] theorem State.setTlr_driver (s : State) (x : Tlr) (i : Fin 2) : (s.setTlr x).driver i = s.driver i := rfl
@[simp] theorem State.setTlr_orderSlot (s : State) (x : Tlr) (i : Fin 8) : (s.setTlr x).orderSlot i = s.orderSlot i := rfl
@[simp] theorem State.setDtu_channel (s : State) (x : Dtu) (i : Fin 8) : (s.setDtu x).channel i = s.channel i := rfl
@[simp] theorem State.setDtu_causeOf (s : State) (x : Dtu) (i : Fin 53) : (s.setDtu x).causeOf i = s.causeOf i := rfl
@[simp] theorem State.setDtu_orderSlot (s : State) (x : Dtu) (i : Fin 8) : (s.setDtu x).orderSlot i = s.orderSlot i := rfl
@[simp] theorem State.setSdu_channel (s : State) (x : Sdu) (i : Fin 8) : (s.setSdu x).channel i = s.channel i := rfl
@[simp] theorem State.setSdu_causeOf (s : State) (x : Sdu) (i : Fin 53) : (s.setSdu x).causeOf i = s.causeOf i := rfl
@[simp] theorem State.setSdu_driver (s : State) (x : Sdu) (i : Fin 2) : (s.setSdu x).driver i = s.driver i := rfl
@[simp] theorem State.setSdu_orderSlot (s : State) (x : Sdu) (i : Fin 8) : (s.setSdu x).orderSlot i = s.orderSlot i := rfl
@[simp] theorem State.setNvs_channel (s : State) (x : Nvs) (i : Fin 8) : (s.setNvs x).channel i = s.channel i := rfl
@[simp] theorem State.setNvs_causeOf (s : State) (x : Nvs) (i : Fin 53) : (s.setNvs x).causeOf i = s.causeOf i := rfl
@[simp] theorem State.setNvs_driver (s : State) (x : Nvs) (i : Fin 2) : (s.setNvs x).driver i = s.driver i := rfl
@[simp] theorem State.setNvs_orderSlot (s : State) (x : Nvs) (i : Fin 8) : (s.setNvs x).orderSlot i = s.orderSlot i := rfl
@[simp] theorem State.setLnk_channel (s : State) (x : Lnk) (i : Fin 8) : (s.setLnk x).channel i = s.channel i := rfl
@[simp] theorem State.setLnk_causeOf (s : State) (x : Lnk) (i : Fin 53) : (s.setLnk x).causeOf i = s.causeOf i := rfl
@[simp] theorem State.setLnk_driver (s : State) (x : Lnk) (i : Fin 2) : (s.setLnk x).driver i = s.driver i := rfl
@[simp] theorem State.setHost_channel (s : State) (x : Memory) (i : Fin 8) : (s.setHost x).channel i = s.channel i := rfl
@[simp] theorem State.setHost_causeOf (s : State) (x : Memory) (i : Fin 53) : (s.setHost x).causeOf i = s.causeOf i := rfl
@[simp] theorem State.setHost_driver (s : State) (x : Memory) (i : Fin 2) : (s.setHost x).driver i = s.driver i := rfl
@[simp] theorem State.setHost_orderSlot (s : State) (x : Memory) (i : Fin 8) : (s.setHost x).orderSlot i = s.orderSlot i := rfl
@[simp] theorem tick_channel (t : Nat) (s : State) (i : Fin 8) : (tick t s).channel i = s.channel i := rfl
@[simp] theorem tick_causeOf (t : Nat) (s : State) (i : Fin 53) : (tick t s).causeOf i = s.causeOf i := rfl
@[simp] theorem tick_driver (t : Nat) (s : State) (i : Fin 2) : (tick t s).driver i = s.driver i := rfl
@[simp] theorem tick_orderSlot (t : Nat) (s : State) (i : Fin 8) : (tick t s).orderSlot i = s.orderSlot i := rfl
@[simp] theorem State.setChannel_causeOf (s : State) (i : Fin 8) (x : Channel) (j : Fin 53) : (s.setChannel i x).causeOf j = s.causeOf j := rfl
@[simp] theorem State.setChannel_driver (s : State) (i : Fin 8) (x : Channel) (j : Fin 2) : (s.setChannel i x).driver j = s.driver j := rfl
@[simp] theorem State.setChannel_orderSlot (s : State) (i : Fin 8) (x : Channel) (j : Fin 8) : (s.setChannel i x).orderSlot j = s.orderSlot j := rfl
@[simp] theorem State.setCause_channel (s : State) (i : Fin 53) (x : Cause) (j : Fin 8) : (s.setCause i x).channel j = s.channel j := rfl
@[simp] theorem State.setCause_driver (s : State) (i : Fin 53) (x : Cause) (j : Fin 2) : (s.setCause i x).driver j = s.driver j := rfl
@[simp] theorem State.setCause_orderSlot (s : State) (i : Fin 53) (x : Cause) (j : Fin 8) : (s.setCause i x).orderSlot j = s.orderSlot j := rfl
@[simp] theorem State.setDriver_channel (s : State) (i : Fin 2) (x : Driver) (j : Fin 8) : (s.setDriver i x).channel j = s.channel j := rfl
@[simp] theorem State.setDriver_causeOf (s : State) (i : Fin 2) (x : Driver) (j : Fin 53) : (s.setDriver i x).causeOf j = s.causeOf j := rfl
@[simp] theorem State.setDriver_orderSlot (s : State) (i : Fin 2) (x : Driver) (j : Fin 8) : (s.setDriver i x).orderSlot j = s.orderSlot j := rfl
@[simp] theorem State.setOrderSlot_channel (s : State) (i : Fin 8) (x : OrderSlot) (j : Fin 8) : (s.setOrderSlot i x).channel j = s.channel j := rfl
@[simp] theorem State.setOrderSlot_causeOf (s : State) (i : Fin 8) (x : OrderSlot) (j : Fin 53) : (s.setOrderSlot i x).causeOf j = s.causeOf j := rfl
@[simp] theorem State.setOrderSlot_driver (s : State) (i : Fin 8) (x : OrderSlot) (j : Fin 2) : (s.setOrderSlot i x).driver j = s.driver j := rfl

end Sys2Proof.Machine
end

