-- ==== Sys2Proof/Laws/CauseFrames.lean ====
section
/-! SUPPORT. What the journal's and TTU's shared operations leave alone: each lemma names every part of the state that the operation does not change. -/

namespace Sys2Proof.Machine

/-- A fold keeps what each of its steps keeps. -/
theorem foldl_keeps {α β : Type} (P : State → β) (f : State → α → State) (h : ∀ s a, P (f s a) = P s) :
    ∀ (l : List α) (s : State), P (l.foldl f s) = P s
  | [], _ => rfl
  | a :: l, s => by rw [List.foldl_cons, foldl_keeps P f h l, h]

@[simp] theorem postAtCursor_frame (k : RecordKind) (f d m : Nat) (p : List Byte) (s : State) :
    (postAtCursor k f d m p s).now = s.now ∧
      (postAtCursor k f d m p s).psc = s.psc ∧
      (postAtCursor k f d m p s).spd = s.spd ∧
      (postAtCursor k f d m p s).gau = s.gau ∧
      (postAtCursor k f d m p s).ttu = s.ttu ∧
      (postAtCursor k f d m p s).tlr = s.tlr ∧
      (postAtCursor k f d m p s).dtu = s.dtu ∧
      (postAtCursor k f d m p s).sdu = s.sdu ∧
      (postAtCursor k f d m p s).nvs = s.nvs ∧
      (postAtCursor k f d m p s).host = s.host ∧
      (postAtCursor k f d m p s).freeCount = s.freeCount ∧
      (postAtCursor k f d m p s).pending = s.pending ∧
      (postAtCursor k f d m p s).lnk.port = s.lnk.port ∧
      (postAtCursor k f d m p s).lnk.discard = s.lnk.discard ∧
      (postAtCursor k f d m p s).lnk.causeEcho = s.lnk.causeEcho ∧
      (postAtCursor k f d m p s).lnk.gaugeEcho = s.lnk.gaugeEcho ∧
      (postAtCursor k f d m p s).lnk.textEcho = s.lnk.textEcho ∧
      (postAtCursor k f d m p s).lnk.orders = s.lnk.orders := by
  simp [postAtCursor]

@[simp] theorem post_frame (k : RecordKind) (p : List Byte) (s : State) :
    (post k p s).now = s.now ∧
      (post k p s).psc = s.psc ∧
      (post k p s).spd = s.spd ∧
      (post k p s).gau = s.gau ∧
      (post k p s).ttu = s.ttu ∧
      (post k p s).tlr = s.tlr ∧
      (post k p s).dtu = s.dtu ∧
      (post k p s).sdu = s.sdu ∧
      (post k p s).nvs = s.nvs ∧
      (post k p s).host = s.host ∧
      (post k p s).freeCount = s.freeCount ∧
      (post k p s).pending = s.pending ∧
      (post k p s).lnk.port = s.lnk.port ∧
      (post k p s).lnk.discard = s.lnk.discard ∧
      (post k p s).lnk.causeEcho = s.lnk.causeEcho ∧
      (post k p s).lnk.gaugeEcho = s.lnk.gaugeEcho ∧
      (post k p s).lnk.textEcho = s.lnk.textEcho ∧
      (post k p s).lnk.orders = s.lnk.orders := by
  simp only [post]
  repeat' split
  all_goals simp

@[simp] theorem drain_frame (l : List BacklogEntry) (s : State) :
    (drain l s).now = s.now ∧
      (drain l s).psc = s.psc ∧
      (drain l s).spd = s.spd ∧
      (drain l s).gau = s.gau ∧
      (drain l s).ttu = s.ttu ∧
      (drain l s).tlr = s.tlr ∧
      (drain l s).dtu = s.dtu ∧
      (drain l s).sdu = s.sdu ∧
      (drain l s).nvs = s.nvs ∧
      (drain l s).host = s.host ∧
      (drain l s).freeCount = s.freeCount ∧
      (drain l s).pending = s.pending ∧
      (drain l s).lnk.port = s.lnk.port ∧
      (drain l s).lnk.discard = s.lnk.discard ∧
      (drain l s).lnk.causeEcho = s.lnk.causeEcho ∧
      (drain l s).lnk.gaugeEcho = s.lnk.gaugeEcho ∧
      (drain l s).lnk.textEcho = s.lnk.textEcho ∧
      (drain l s).lnk.orders = s.lnk.orders := by
  induction l generalizing s with
  | nil => simp [drain]
  | cons e es ih => unfold drain; split <;> simp [ih]

@[simp] theorem lampEvaluation_frame (s : State) :
    (lampEvaluation s).now = s.now ∧
      (lampEvaluation s).psc = s.psc ∧
      (lampEvaluation s).spd = s.spd ∧
      (lampEvaluation s).gau = s.gau ∧
      (lampEvaluation s).tlr = s.tlr ∧
      (lampEvaluation s).dtu = s.dtu ∧
      (lampEvaluation s).sdu = s.sdu ∧
      (lampEvaluation s).nvs = s.nvs ∧
      (lampEvaluation s).host = s.host ∧
      (lampEvaluation s).freeCount = s.freeCount ∧
      (lampEvaluation s).pending = s.pending ∧
      (lampEvaluation s).lnk = s.lnk := by
  simp [lampEvaluation]

@[simp] theorem insertRequest_frame (r : Request) (s : State) :
    (insertRequest r s).now = s.now ∧
      (insertRequest r s).psc = s.psc ∧
      (insertRequest r s).spd = s.spd ∧
      (insertRequest r s).gau = s.gau ∧
      (insertRequest r s).tlr = s.tlr ∧
      (insertRequest r s).dtu = s.dtu ∧
      (insertRequest r s).sdu = s.sdu ∧
      (insertRequest r s).nvs = s.nvs ∧
      (insertRequest r s).host = s.host ∧
      (insertRequest r s).freeCount = s.freeCount ∧
      (insertRequest r s).pending = s.pending ∧
      (insertRequest r s).lnk = s.lnk := by
  simp only [insertRequest]
  repeat' split
  all_goals simp

@[simp] theorem chimeStart_frame (s : State) :
    (chimeStart s).now = s.now ∧
      (chimeStart s).psc = s.psc ∧
      (chimeStart s).spd = s.spd ∧
      (chimeStart s).gau = s.gau ∧
      (chimeStart s).tlr = s.tlr ∧
      (chimeStart s).dtu = s.dtu ∧
      (chimeStart s).sdu = s.sdu ∧
      (chimeStart s).nvs = s.nvs ∧
      (chimeStart s).host = s.host ∧
      (chimeStart s).freeCount = s.freeCount ∧
      (chimeStart s).pending = s.pending ∧
      (chimeStart s).lnk = s.lnk := by
  simp only [chimeStart]
  repeat' split
  all_goals simp

@[simp] theorem stopPlaying_frame (s : State) :
    (stopPlaying s).now = s.now ∧
      (stopPlaying s).psc = s.psc ∧
      (stopPlaying s).spd = s.spd ∧
      (stopPlaying s).gau = s.gau ∧
      (stopPlaying s).tlr = s.tlr ∧
      (stopPlaying s).dtu = s.dtu ∧
      (stopPlaying s).sdu = s.sdu ∧
      (stopPlaying s).nvs = s.nvs ∧
      (stopPlaying s).host = s.host ∧
      (stopPlaying s).freeCount = s.freeCount ∧
      (stopPlaying s).pending = s.pending ∧
      (stopPlaying s).lnk = s.lnk := by
  simp [stopPlaying]

@[simp] theorem returnPlaying_frame (s : State) :
    (returnPlaying s).now = s.now ∧
      (returnPlaying s).psc = s.psc ∧
      (returnPlaying s).spd = s.spd ∧
      (returnPlaying s).gau = s.gau ∧
      (returnPlaying s).tlr = s.tlr ∧
      (returnPlaying s).dtu = s.dtu ∧
      (returnPlaying s).sdu = s.sdu ∧
      (returnPlaying s).nvs = s.nvs ∧
      (returnPlaying s).host = s.host ∧
      (returnPlaying s).freeCount = s.freeCount ∧
      (returnPlaying s).pending = s.pending ∧
      (returnPlaying s).lnk = s.lnk := by
  simp only [returnPlaying]
  repeat' split
  all_goals simp

@[simp] theorem newRequest_frame (n : Fin 53) (s : State) :
    (newRequest n s).now = s.now ∧
      (newRequest n s).psc = s.psc ∧
      (newRequest n s).spd = s.spd ∧
      (newRequest n s).gau = s.gau ∧
      (newRequest n s).tlr = s.tlr ∧
      (newRequest n s).dtu = s.dtu ∧
      (newRequest n s).sdu = s.sdu ∧
      (newRequest n s).nvs = s.nvs ∧
      (newRequest n s).host = s.host ∧
      (newRequest n s).freeCount = s.freeCount ∧
      (newRequest n s).pending = s.pending ∧
      (newRequest n s).lnk = s.lnk := by
  simp only [newRequest]
  repeat' split
  all_goals simp

@[simp] theorem removeRequest_frame (n : Fin 53) (s : State) :
    (removeRequest n s).now = s.now ∧
      (removeRequest n s).psc = s.psc ∧
      (removeRequest n s).spd = s.spd ∧
      (removeRequest n s).gau = s.gau ∧
      (removeRequest n s).tlr = s.tlr ∧
      (removeRequest n s).dtu = s.dtu ∧
      (removeRequest n s).sdu = s.sdu ∧
      (removeRequest n s).nvs = s.nvs ∧
      (removeRequest n s).host = s.host ∧
      (removeRequest n s).freeCount = s.freeCount ∧
      (removeRequest n s).pending = s.pending ∧
      (removeRequest n s).lnk = s.lnk := by
  simp only [removeRequest]
  repeat' split
  all_goals simp

@[simp] theorem changeCause_frame (n : Fin 53) (x : CauseState) (w : ChangeReason) (s : State) :
    (changeCause n x w s).now = s.now ∧
      (changeCause n x w s).psc = s.psc ∧
      (changeCause n x w s).spd = s.spd ∧
      (changeCause n x w s).gau = s.gau ∧
      (changeCause n x w s).tlr = s.tlr ∧
      (changeCause n x w s).dtu = s.dtu ∧
      (changeCause n x w s).sdu = s.sdu ∧
      (changeCause n x w s).nvs = s.nvs ∧
      (changeCause n x w s).host = s.host ∧
      (changeCause n x w s).freeCount = s.freeCount ∧
      (changeCause n x w s).pending = s.pending ∧
      (changeCause n x w s).lnk.port = s.lnk.port ∧
      (changeCause n x w s).lnk.discard = s.lnk.discard ∧
      (changeCause n x w s).lnk.causeEcho = s.lnk.causeEcho ∧
      (changeCause n x w s).lnk.gaugeEcho = s.lnk.gaugeEcho ∧
      (changeCause n x w s).lnk.textEcho = s.lnk.textEcho ∧
      (changeCause n x w s).lnk.orders = s.lnk.orders := by
  simp [changeCause]

@[simp] theorem enterActive_frame (n : Fin 53) (g : Nat) (a : Byte) (s : State) :
    (enterActive n g a s).now = s.now ∧
      (enterActive n g a s).psc = s.psc ∧
      (enterActive n g a s).spd = s.spd ∧
      (enterActive n g a s).gau = s.gau ∧
      (enterActive n g a s).tlr = s.tlr ∧
      (enterActive n g a s).dtu = s.dtu ∧
      (enterActive n g a s).sdu = s.sdu ∧
      (enterActive n g a s).nvs = s.nvs ∧
      (enterActive n g a s).host = s.host ∧
      (enterActive n g a s).freeCount = s.freeCount ∧
      (enterActive n g a s).pending = s.pending ∧
      (enterActive n g a s).lnk.port = s.lnk.port ∧
      (enterActive n g a s).lnk.discard = s.lnk.discard ∧
      (enterActive n g a s).lnk.causeEcho = s.lnk.causeEcho ∧
      (enterActive n g a s).lnk.gaugeEcho = s.lnk.gaugeEcho ∧
      (enterActive n g a s).lnk.textEcho = s.lnk.textEcho ∧
      (enterActive n g a s).lnk.orders = s.lnk.orders := by
  simp only [enterActive]
  repeat' split
  all_goals simp

@[simp] theorem raiseCause_frame (n : Fin 53) (g : Option Nat) (a : Option Byte) (s : State) :
    (raiseCause n g a s).now = s.now ∧
      (raiseCause n g a s).psc = s.psc ∧
      (raiseCause n g a s).spd = s.spd ∧
      (raiseCause n g a s).gau = s.gau ∧
      (raiseCause n g a s).tlr = s.tlr ∧
      (raiseCause n g a s).dtu = s.dtu ∧
      (raiseCause n g a s).sdu = s.sdu ∧
      (raiseCause n g a s).nvs = s.nvs ∧
      (raiseCause n g a s).host = s.host ∧
      (raiseCause n g a s).freeCount = s.freeCount ∧
      (raiseCause n g a s).pending = s.pending ∧
      (raiseCause n g a s).lnk.port = s.lnk.port ∧
      (raiseCause n g a s).lnk.discard = s.lnk.discard ∧
      (raiseCause n g a s).lnk.causeEcho = s.lnk.causeEcho ∧
      (raiseCause n g a s).lnk.gaugeEcho = s.lnk.gaugeEcho ∧
      (raiseCause n g a s).lnk.textEcho = s.lnk.textEcho ∧
      (raiseCause n g a s).lnk.orders = s.lnk.orders := by
  simp only [raiseCause]
  repeat' split
  all_goals simp

@[simp] theorem clearCause_frame (n : Fin 53) (s : State) :
    (clearCause n s).now = s.now ∧
      (clearCause n s).psc = s.psc ∧
      (clearCause n s).spd = s.spd ∧
      (clearCause n s).gau = s.gau ∧
      (clearCause n s).tlr = s.tlr ∧
      (clearCause n s).dtu = s.dtu ∧
      (clearCause n s).sdu = s.sdu ∧
      (clearCause n s).nvs = s.nvs ∧
      (clearCause n s).host = s.host ∧
      (clearCause n s).freeCount = s.freeCount ∧
      (clearCause n s).pending = s.pending ∧
      (clearCause n s).lnk.port = s.lnk.port ∧
      (clearCause n s).lnk.discard = s.lnk.discard ∧
      (clearCause n s).lnk.causeEcho = s.lnk.causeEcho ∧
      (clearCause n s).lnk.gaugeEcho = s.lnk.gaugeEcho ∧
      (clearCause n s).lnk.textEcho = s.lnk.textEcho ∧
      (clearCause n s).lnk.orders = s.lnk.orders := by
  simp only [clearCause]
  repeat' split
  all_goals simp

@[simp] theorem acknowledgeCause_frame (w : ChangeReason) (n : Fin 53) (s : State) :
    (acknowledgeCause w n s).now = s.now ∧
      (acknowledgeCause w n s).psc = s.psc ∧
      (acknowledgeCause w n s).spd = s.spd ∧
      (acknowledgeCause w n s).gau = s.gau ∧
      (acknowledgeCause w n s).tlr = s.tlr ∧
      (acknowledgeCause w n s).dtu = s.dtu ∧
      (acknowledgeCause w n s).sdu = s.sdu ∧
      (acknowledgeCause w n s).nvs = s.nvs ∧
      (acknowledgeCause w n s).host = s.host ∧
      (acknowledgeCause w n s).freeCount = s.freeCount ∧
      (acknowledgeCause w n s).pending = s.pending ∧
      (acknowledgeCause w n s).lnk.port = s.lnk.port ∧
      (acknowledgeCause w n s).lnk.discard = s.lnk.discard ∧
      (acknowledgeCause w n s).lnk.causeEcho = s.lnk.causeEcho ∧
      (acknowledgeCause w n s).lnk.gaugeEcho = s.lnk.gaugeEcho ∧
      (acknowledgeCause w n s).lnk.textEcho = s.lnk.textEcho ∧
      (acknowledgeCause w n s).lnk.orders = s.lnk.orders := by
  simp only [acknowledgeCause]
  repeat' split
  all_goals simp

@[simp] theorem sendAssertion_frame (n : Fin 53) (g : Option Nat) (a b : Bool) (s : State) :
    (sendAssertion n g a b s).now = s.now ∧
      (sendAssertion n g a b s).psc = s.psc ∧
      (sendAssertion n g a b s).spd = s.spd ∧
      (sendAssertion n g a b s).gau = s.gau ∧
      (sendAssertion n g a b s).tlr = s.tlr ∧
      (sendAssertion n g a b s).dtu = s.dtu ∧
      (sendAssertion n g a b s).sdu = s.sdu ∧
      (sendAssertion n g a b s).nvs = s.nvs ∧
      (sendAssertion n g a b s).host = s.host ∧
      (sendAssertion n g a b s).freeCount = s.freeCount ∧
      (sendAssertion n g a b s).pending = s.pending ∧
      (sendAssertion n g a b s).lnk.port = s.lnk.port ∧
      (sendAssertion n g a b s).lnk.discard = s.lnk.discard ∧
      (sendAssertion n g a b s).lnk.causeEcho = s.lnk.causeEcho ∧
      (sendAssertion n g a b s).lnk.gaugeEcho = s.lnk.gaugeEcho ∧
      (sendAssertion n g a b s).lnk.textEcho = s.lnk.textEcho ∧
      (sendAssertion n g a b s).lnk.orders = s.lnk.orders := by
  simp only [sendAssertion]
  repeat' split
  all_goals simp

@[simp] theorem evalLampFault_frame (s : State) :
    (evalLampFault s).now = s.now ∧
      (evalLampFault s).psc = s.psc ∧
      (evalLampFault s).spd = s.spd ∧
      (evalLampFault s).gau = s.gau ∧
      (evalLampFault s).tlr = s.tlr ∧
      (evalLampFault s).dtu = s.dtu ∧
      (evalLampFault s).sdu = s.sdu ∧
      (evalLampFault s).nvs = s.nvs ∧
      (evalLampFault s).host = s.host ∧
      (evalLampFault s).freeCount = s.freeCount ∧
      (evalLampFault s).pending = s.pending ∧
      (evalLampFault s).lnk.port = s.lnk.port ∧
      (evalLampFault s).lnk.discard = s.lnk.discard ∧
      (evalLampFault s).lnk.causeEcho = s.lnk.causeEcho ∧
      (evalLampFault s).lnk.gaugeEcho = s.lnk.gaugeEcho ∧
      (evalLampFault s).lnk.textEcho = s.lnk.textEcho ∧
      (evalLampFault s).lnk.orders = s.lnk.orders := by
  simp [evalLampFault]

@[simp] theorem readLamp_frame (b : Bool) (l : Fin 48) (s : State) :
    (readLamp b l s).now = s.now ∧
      (readLamp b l s).psc = s.psc ∧
      (readLamp b l s).spd = s.spd ∧
      (readLamp b l s).gau = s.gau ∧
      (readLamp b l s).tlr = s.tlr ∧
      (readLamp b l s).dtu = s.dtu ∧
      (readLamp b l s).sdu = s.sdu ∧
      (readLamp b l s).nvs = s.nvs ∧
      (readLamp b l s).host = s.host ∧
      (readLamp b l s).freeCount = s.freeCount ∧
      (readLamp b l s).pending = s.pending ∧
      (readLamp b l s).lnk.port = s.lnk.port ∧
      (readLamp b l s).lnk.discard = s.lnk.discard ∧
      (readLamp b l s).lnk.causeEcho = s.lnk.causeEcho ∧
      (readLamp b l s).lnk.gaugeEcho = s.lnk.gaugeEcho ∧
      (readLamp b l s).lnk.textEcho = s.lnk.textEcho ∧
      (readLamp b l s).lnk.orders = s.lnk.orders := by
  simp only [readLamp]
  repeat' split
  all_goals simp

@[simp] theorem releaseHold_frame (n : Fin 53) (s : State) :
    (releaseHold n s).now = s.now ∧
      (releaseHold n s).psc = s.psc ∧
      (releaseHold n s).spd = s.spd ∧
      (releaseHold n s).gau = s.gau ∧
      (releaseHold n s).tlr = s.tlr ∧
      (releaseHold n s).dtu = s.dtu ∧
      (releaseHold n s).sdu = s.sdu ∧
      (releaseHold n s).nvs = s.nvs ∧
      (releaseHold n s).host = s.host ∧
      (releaseHold n s).freeCount = s.freeCount ∧
      (releaseHold n s).pending = s.pending ∧
      (releaseHold n s).lnk = s.lnk := by
  simp only [releaseHold]
  repeat' split
  all_goals simp

@[simp] theorem acknowledgeHeld_frame (w : ChangeReason) (s : State) :
    (acknowledgeHeld w s).now = s.now ∧
      (acknowledgeHeld w s).psc = s.psc ∧
      (acknowledgeHeld w s).spd = s.spd ∧
      (acknowledgeHeld w s).gau = s.gau ∧
      (acknowledgeHeld w s).tlr = s.tlr ∧
      (acknowledgeHeld w s).dtu = s.dtu ∧
      (acknowledgeHeld w s).sdu = s.sdu ∧
      (acknowledgeHeld w s).nvs = s.nvs ∧
      (acknowledgeHeld w s).host = s.host ∧
      (acknowledgeHeld w s).freeCount = s.freeCount ∧
      (acknowledgeHeld w s).pending = s.pending ∧
      (acknowledgeHeld w s).lnk.port = s.lnk.port ∧
      (acknowledgeHeld w s).lnk.discard = s.lnk.discard ∧
      (acknowledgeHeld w s).lnk.causeEcho = s.lnk.causeEcho ∧
      (acknowledgeHeld w s).lnk.gaugeEcho = s.lnk.gaugeEcho ∧
      (acknowledgeHeld w s).lnk.textEcho = s.lnk.textEcho ∧
      (acknowledgeHeld w s).lnk.orders = s.lnk.orders := by
  unfold acknowledgeHeld
  exact ⟨foldl_keeps (fun s => s.now) _ (fun s a => by simp) _ _,
    foldl_keeps (fun s => s.psc) _ (fun s a => by simp) _ _,
    foldl_keeps (fun s => s.spd) _ (fun s a => by simp) _ _,
    foldl_keeps (fun s => s.gau) _ (fun s a => by simp) _ _,
    foldl_keeps (fun s => s.tlr) _ (fun s a => by simp) _ _,
    foldl_keeps (fun s => s.dtu) _ (fun s a => by simp) _ _,
    foldl_keeps (fun s => s.sdu) _ (fun s a => by simp) _ _,
    foldl_keeps (fun s => s.nvs) _ (fun s a => by simp) _ _,
    foldl_keeps (fun s => s.host) _ (fun s a => by simp) _ _,
    foldl_keeps (fun s => s.freeCount) _ (fun s a => by simp) _ _,
    foldl_keeps (fun s => s.pending) _ (fun s a => by simp) _ _,
    foldl_keeps (fun s => s.lnk.port) _ (fun s a => by simp) _ _,
    foldl_keeps (fun s => s.lnk.discard) _ (fun s a => by simp) _ _,
    foldl_keeps (fun s => s.lnk.causeEcho) _ (fun s a => by simp) _ _,
    foldl_keeps (fun s => s.lnk.gaugeEcho) _ (fun s a => by simp) _ _,
    foldl_keeps (fun s => s.lnk.textEcho) _ (fun s a => by simp) _ _,
    foldl_keeps (fun s => s.lnk.orders) _ (fun s a => by simp) _ _⟩

@[simp] theorem ackPressed_frame (s : State) :
    (ackPressed s).now = s.now ∧
      (ackPressed s).psc = s.psc ∧
      (ackPressed s).spd = s.spd ∧
      (ackPressed s).gau = s.gau ∧
      (ackPressed s).tlr = s.tlr ∧
      (ackPressed s).dtu = s.dtu ∧
      (ackPressed s).sdu = s.sdu ∧
      (ackPressed s).nvs = s.nvs ∧
      (ackPressed s).host = s.host ∧
      (ackPressed s).freeCount = s.freeCount ∧
      (ackPressed s).pending = s.pending ∧
      (ackPressed s).lnk.port = s.lnk.port ∧
      (ackPressed s).lnk.discard = s.lnk.discard ∧
      (ackPressed s).lnk.causeEcho = s.lnk.causeEcho ∧
      (ackPressed s).lnk.gaugeEcho = s.lnk.gaugeEcho ∧
      (ackPressed s).lnk.textEcho = s.lnk.textEcho ∧
      (ackPressed s).lnk.orders = s.lnk.orders := by
  simp only [ackPressed]
  repeat' split
  all_goals simp

@[simp] theorem orderAcknowledge_frame (n : Nat) (s : State) :
    (orderAcknowledge n s).2.now = s.now ∧
      (orderAcknowledge n s).2.psc = s.psc ∧
      (orderAcknowledge n s).2.spd = s.spd ∧
      (orderAcknowledge n s).2.gau = s.gau ∧
      (orderAcknowledge n s).2.tlr = s.tlr ∧
      (orderAcknowledge n s).2.dtu = s.dtu ∧
      (orderAcknowledge n s).2.sdu = s.sdu ∧
      (orderAcknowledge n s).2.nvs = s.nvs ∧
      (orderAcknowledge n s).2.host = s.host ∧
      (orderAcknowledge n s).2.freeCount = s.freeCount ∧
      (orderAcknowledge n s).2.pending = s.pending ∧
      (orderAcknowledge n s).2.lnk.port = s.lnk.port ∧
      (orderAcknowledge n s).2.lnk.discard = s.lnk.discard ∧
      (orderAcknowledge n s).2.lnk.causeEcho = s.lnk.causeEcho ∧
      (orderAcknowledge n s).2.lnk.gaugeEcho = s.lnk.gaugeEcho ∧
      (orderAcknowledge n s).2.lnk.textEcho = s.lnk.textEcho ∧
      (orderAcknowledge n s).2.lnk.orders = s.lnk.orders := by
  unfold orderAcknowledge
  dsimp only
  exact ⟨foldl_keeps (fun s => s.now) _ (fun s a => by simp) _ _,
    foldl_keeps (fun s => s.psc) _ (fun s a => by simp) _ _,
    foldl_keeps (fun s => s.spd) _ (fun s a => by simp) _ _,
    foldl_keeps (fun s => s.gau) _ (fun s a => by simp) _ _,
    foldl_keeps (fun s => s.tlr) _ (fun s a => by simp) _ _,
    foldl_keeps (fun s => s.dtu) _ (fun s a => by simp) _ _,
    foldl_keeps (fun s => s.sdu) _ (fun s a => by simp) _ _,
    foldl_keeps (fun s => s.nvs) _ (fun s a => by simp) _ _,
    foldl_keeps (fun s => s.host) _ (fun s a => by simp) _ _,
    foldl_keeps (fun s => s.freeCount) _ (fun s a => by simp) _ _,
    foldl_keeps (fun s => s.pending) _ (fun s a => by simp) _ _,
    foldl_keeps (fun s => s.lnk.port) _ (fun s a => by simp) _ _,
    foldl_keeps (fun s => s.lnk.discard) _ (fun s a => by simp) _ _,
    foldl_keeps (fun s => s.lnk.causeEcho) _ (fun s a => by simp) _ _,
    foldl_keeps (fun s => s.lnk.gaugeEcho) _ (fun s a => by simp) _ _,
    foldl_keeps (fun s => s.lnk.textEcho) _ (fun s a => by simp) _ _,
    foldl_keeps (fun s => s.lnk.orders) _ (fun s a => by simp) _ _⟩

@[simp] theorem startLampTest_frame (n : Nat) (s : State) :
    (startLampTest n s).now = s.now ∧
      (startLampTest n s).psc = s.psc ∧
      (startLampTest n s).spd = s.spd ∧
      (startLampTest n s).gau = s.gau ∧
      (startLampTest n s).tlr = s.tlr ∧
      (startLampTest n s).dtu = s.dtu ∧
      (startLampTest n s).sdu = s.sdu ∧
      (startLampTest n s).nvs = s.nvs ∧
      (startLampTest n s).host = s.host ∧
      (startLampTest n s).freeCount = s.freeCount ∧
      (startLampTest n s).pending = s.pending ∧
      (startLampTest n s).lnk.port = s.lnk.port ∧
      (startLampTest n s).lnk.discard = s.lnk.discard ∧
      (startLampTest n s).lnk.causeEcho = s.lnk.causeEcho ∧
      (startLampTest n s).lnk.gaugeEcho = s.lnk.gaugeEcho ∧
      (startLampTest n s).lnk.textEcho = s.lnk.textEcho ∧
      (startLampTest n s).lnk.orders = s.lnk.orders := by
  simp [startLampTest]

@[simp] theorem endLampTest_frame (s : State) :
    (endLampTest s).now = s.now ∧
      (endLampTest s).psc = s.psc ∧
      (endLampTest s).spd = s.spd ∧
      (endLampTest s).gau = s.gau ∧
      (endLampTest s).tlr = s.tlr ∧
      (endLampTest s).dtu = s.dtu ∧
      (endLampTest s).sdu = s.sdu ∧
      (endLampTest s).nvs = s.nvs ∧
      (endLampTest s).host = s.host ∧
      (endLampTest s).freeCount = s.freeCount ∧
      (endLampTest s).pending = s.pending ∧
      (endLampTest s).lnk = s.lnk := by
  simp [endLampTest]

@[simp] theorem endChimePeriod_frame (p : Playing) (s : State) :
    (endChimePeriod p s).now = s.now ∧
      (endChimePeriod p s).psc = s.psc ∧
      (endChimePeriod p s).spd = s.spd ∧
      (endChimePeriod p s).gau = s.gau ∧
      (endChimePeriod p s).tlr = s.tlr ∧
      (endChimePeriod p s).dtu = s.dtu ∧
      (endChimePeriod p s).sdu = s.sdu ∧
      (endChimePeriod p s).nvs = s.nvs ∧
      (endChimePeriod p s).host = s.host ∧
      (endChimePeriod p s).freeCount = s.freeCount ∧
      (endChimePeriod p s).pending = s.pending ∧
      (endChimePeriod p s).lnk = s.lnk := by
  simp only [endChimePeriod]
  repeat' split
  all_goals simp

@[simp] theorem ttuRunEntry_frame (s : State) :
    (ttuRunEntry s).now = s.now ∧
      (ttuRunEntry s).psc = s.psc ∧
      (ttuRunEntry s).spd = s.spd ∧
      (ttuRunEntry s).gau = s.gau ∧
      (ttuRunEntry s).tlr = s.tlr ∧
      (ttuRunEntry s).dtu = s.dtu ∧
      (ttuRunEntry s).sdu = s.sdu ∧
      (ttuRunEntry s).nvs = s.nvs ∧
      (ttuRunEntry s).host = s.host ∧
      (ttuRunEntry s).freeCount = s.freeCount ∧
      (ttuRunEntry s).pending = s.pending ∧
      (ttuRunEntry s).lnk.port = s.lnk.port ∧
      (ttuRunEntry s).lnk.discard = s.lnk.discard ∧
      (ttuRunEntry s).lnk.causeEcho = s.lnk.causeEcho ∧
      (ttuRunEntry s).lnk.gaugeEcho = s.lnk.gaugeEcho ∧
      (ttuRunEntry s).lnk.textEcho = s.lnk.textEcho ∧
      (ttuRunEntry s).lnk.orders = s.lnk.orders := by
  simp only [ttuRunEntry]
  repeat' split
  all_goals simp

@[simp] theorem takeHostCause_frame (n : Fin 32) (s : State) :
    (takeHostCause n s).now = s.now ∧
      (takeHostCause n s).psc = s.psc ∧
      (takeHostCause n s).spd = s.spd ∧
      (takeHostCause n s).gau = s.gau ∧
      (takeHostCause n s).tlr = s.tlr ∧
      (takeHostCause n s).dtu = s.dtu ∧
      (takeHostCause n s).sdu = s.sdu ∧
      (takeHostCause n s).nvs = s.nvs ∧
      (takeHostCause n s).host = s.host ∧
      (takeHostCause n s).freeCount = s.freeCount ∧
      (takeHostCause n s).pending = s.pending ∧
      (takeHostCause n s).lnk.port = s.lnk.port ∧
      (takeHostCause n s).lnk.discard = s.lnk.discard ∧
      (takeHostCause n s).lnk.gaugeEcho = s.lnk.gaugeEcho ∧
      (takeHostCause n s).lnk.textEcho = s.lnk.textEcho ∧
      (takeHostCause n s).lnk.orders = s.lnk.orders := by
  simp only [takeHostCause]
  repeat' split
  all_goals simp

/-- The readings of a lamp diagnostic sample. -/
@[simp] theorem readLamps_frame (f : Fin 48 → Bool) (l : List (Fin 48)) (s : State) :
    (l.foldl (fun s l => readLamp (f l) l s) s).now = s.now ∧
      (l.foldl (fun s l => readLamp (f l) l s) s).psc = s.psc ∧
      (l.foldl (fun s l => readLamp (f l) l s) s).spd = s.spd ∧
      (l.foldl (fun s l => readLamp (f l) l s) s).gau = s.gau ∧
      (l.foldl (fun s l => readLamp (f l) l s) s).tlr = s.tlr ∧
      (l.foldl (fun s l => readLamp (f l) l s) s).dtu = s.dtu ∧
      (l.foldl (fun s l => readLamp (f l) l s) s).sdu = s.sdu ∧
      (l.foldl (fun s l => readLamp (f l) l s) s).nvs = s.nvs ∧
      (l.foldl (fun s l => readLamp (f l) l s) s).host = s.host ∧
      (l.foldl (fun s l => readLamp (f l) l s) s).freeCount = s.freeCount ∧
      (l.foldl (fun s l => readLamp (f l) l s) s).pending = s.pending ∧
      (l.foldl (fun s l => readLamp (f l) l s) s).lnk.port = s.lnk.port ∧
      (l.foldl (fun s l => readLamp (f l) l s) s).lnk.discard = s.lnk.discard ∧
      (l.foldl (fun s l => readLamp (f l) l s) s).lnk.causeEcho = s.lnk.causeEcho ∧
      (l.foldl (fun s l => readLamp (f l) l s) s).lnk.gaugeEcho = s.lnk.gaugeEcho ∧
      (l.foldl (fun s l => readLamp (f l) l s) s).lnk.textEcho = s.lnk.textEcho ∧
      (l.foldl (fun s l => readLamp (f l) l s) s).lnk.orders = s.lnk.orders :=
  ⟨foldl_keeps (fun s => s.now) _ (fun s a => by simp) _ _,
    foldl_keeps (fun s => s.psc) _ (fun s a => by simp) _ _,
    foldl_keeps (fun s => s.spd) _ (fun s a => by simp) _ _,
    foldl_keeps (fun s => s.gau) _ (fun s a => by simp) _ _,
    foldl_keeps (fun s => s.tlr) _ (fun s a => by simp) _ _,
    foldl_keeps (fun s => s.dtu) _ (fun s a => by simp) _ _,
    foldl_keeps (fun s => s.sdu) _ (fun s a => by simp) _ _,
    foldl_keeps (fun s => s.nvs) _ (fun s a => by simp) _ _,
    foldl_keeps (fun s => s.host) _ (fun s a => by simp) _ _,
    foldl_keeps (fun s => s.freeCount) _ (fun s a => by simp) _ _,
    foldl_keeps (fun s => s.pending) _ (fun s a => by simp) _ _,
    foldl_keeps (fun s => s.lnk.port) _ (fun s a => by simp) _ _,
    foldl_keeps (fun s => s.lnk.discard) _ (fun s a => by simp) _ _,
    foldl_keeps (fun s => s.lnk.causeEcho) _ (fun s a => by simp) _ _,
    foldl_keeps (fun s => s.lnk.gaugeEcho) _ (fun s a => by simp) _ _,
    foldl_keeps (fun s => s.lnk.textEcho) _ (fun s a => by simp) _ _,
    foldl_keeps (fun s => s.lnk.orders) _ (fun s a => by simp) _ _⟩

@[simp] theorem lampSample_frame (o : List (Fin 48)) (s : State) :
    (lampSample o s).now = s.now ∧
      (lampSample o s).psc = s.psc ∧
      (lampSample o s).spd = s.spd ∧
      (lampSample o s).gau = s.gau ∧
      (lampSample o s).tlr = s.tlr ∧
      (lampSample o s).dtu = s.dtu ∧
      (lampSample o s).sdu = s.sdu ∧
      (lampSample o s).nvs = s.nvs ∧
      (lampSample o s).host = s.host ∧
      (lampSample o s).freeCount = s.freeCount ∧
      (lampSample o s).pending = s.pending ∧
      (lampSample o s).lnk.port = s.lnk.port ∧
      (lampSample o s).lnk.discard = s.lnk.discard ∧
      (lampSample o s).lnk.causeEcho = s.lnk.causeEcho ∧
      (lampSample o s).lnk.gaugeEcho = s.lnk.gaugeEcho ∧
      (lampSample o s).lnk.textEcho = s.lnk.textEcho ∧
      (lampSample o s).lnk.orders = s.lnk.orders := by
  simp only [lampSample]
  repeat' split
  all_goals simp

/-- The causes that STANDBY entry clears. -/
@[simp] theorem standbyCauses_frame (l : List (Fin 53)) (s : State) :
    (l.foldl (fun s n => changeCause n .clear .standby s) s).now = s.now ∧
      (l.foldl (fun s n => changeCause n .clear .standby s) s).psc = s.psc ∧
      (l.foldl (fun s n => changeCause n .clear .standby s) s).spd = s.spd ∧
      (l.foldl (fun s n => changeCause n .clear .standby s) s).gau = s.gau ∧
      (l.foldl (fun s n => changeCause n .clear .standby s) s).tlr = s.tlr ∧
      (l.foldl (fun s n => changeCause n .clear .standby s) s).dtu = s.dtu ∧
      (l.foldl (fun s n => changeCause n .clear .standby s) s).sdu = s.sdu ∧
      (l.foldl (fun s n => changeCause n .clear .standby s) s).nvs = s.nvs ∧
      (l.foldl (fun s n => changeCause n .clear .standby s) s).host = s.host ∧
      (l.foldl (fun s n => changeCause n .clear .standby s) s).freeCount = s.freeCount ∧
      (l.foldl (fun s n => changeCause n .clear .standby s) s).pending = s.pending ∧
      (l.foldl (fun s n => changeCause n .clear .standby s) s).lnk.port = s.lnk.port ∧
      (l.foldl (fun s n => changeCause n .clear .standby s) s).lnk.discard = s.lnk.discard ∧
      (l.foldl (fun s n => changeCause n .clear .standby s) s).lnk.causeEcho = s.lnk.causeEcho ∧
      (l.foldl (fun s n => changeCause n .clear .standby s) s).lnk.gaugeEcho = s.lnk.gaugeEcho ∧
      (l.foldl (fun s n => changeCause n .clear .standby s) s).lnk.textEcho = s.lnk.textEcho ∧
      (l.foldl (fun s n => changeCause n .clear .standby s) s).lnk.orders = s.lnk.orders :=
  ⟨foldl_keeps (fun s => s.now) _ (fun s a => by simp) _ _,
    foldl_keeps (fun s => s.psc) _ (fun s a => by simp) _ _,
    foldl_keeps (fun s => s.spd) _ (fun s a => by simp) _ _,
    foldl_keeps (fun s => s.gau) _ (fun s a => by simp) _ _,
    foldl_keeps (fun s => s.tlr) _ (fun s a => by simp) _ _,
    foldl_keeps (fun s => s.dtu) _ (fun s a => by simp) _ _,
    foldl_keeps (fun s => s.sdu) _ (fun s a => by simp) _ _,
    foldl_keeps (fun s => s.nvs) _ (fun s a => by simp) _ _,
    foldl_keeps (fun s => s.host) _ (fun s a => by simp) _ _,
    foldl_keeps (fun s => s.freeCount) _ (fun s a => by simp) _ _,
    foldl_keeps (fun s => s.pending) _ (fun s a => by simp) _ _,
    foldl_keeps (fun s => s.lnk.port) _ (fun s a => by simp) _ _,
    foldl_keeps (fun s => s.lnk.discard) _ (fun s a => by simp) _ _,
    foldl_keeps (fun s => s.lnk.causeEcho) _ (fun s a => by simp) _ _,
    foldl_keeps (fun s => s.lnk.gaugeEcho) _ (fun s a => by simp) _ _,
    foldl_keeps (fun s => s.lnk.textEcho) _ (fun s a => by simp) _ _,
    foldl_keeps (fun s => s.lnk.orders) _ (fun s a => by simp) _ _⟩

@[simp] theorem ttuStandbyEntry_frame (s : State) :
    (ttuStandbyEntry s).now = s.now ∧
      (ttuStandbyEntry s).psc = s.psc ∧
      (ttuStandbyEntry s).spd = s.spd ∧
      (ttuStandbyEntry s).gau = s.gau ∧
      (ttuStandbyEntry s).tlr = s.tlr ∧
      (ttuStandbyEntry s).dtu = s.dtu ∧
      (ttuStandbyEntry s).sdu = s.sdu ∧
      (ttuStandbyEntry s).nvs = s.nvs ∧
      (ttuStandbyEntry s).host = s.host ∧
      (ttuStandbyEntry s).freeCount = s.freeCount ∧
      (ttuStandbyEntry s).pending = s.pending ∧
      (ttuStandbyEntry s).lnk.port = s.lnk.port ∧
      (ttuStandbyEntry s).lnk.discard = s.lnk.discard ∧
      (ttuStandbyEntry s).lnk.causeEcho = s.lnk.causeEcho ∧
      (ttuStandbyEntry s).lnk.gaugeEcho = s.lnk.gaugeEcho ∧
      (ttuStandbyEntry s).lnk.textEcho = s.lnk.textEcho ∧
      (ttuStandbyEntry s).lnk.orders = s.lnk.orders := by
  simp [ttuStandbyEntry]

end Sys2Proof.Machine
end

