-- ==== Sys2Proof/Laws/GaugeFrames.lean ====
section
/-! SUPPORT. What GAU's shared operations leave alone. -/

namespace Sys2Proof.Machine

/-- A fold over the channels keeps what each of its steps keeps. -/
theorem forChannels_keeps {β : Type} (P : State → β) (f : Fin 8 → State → State) (h : ∀ c s, P (f c s) = P s)
    (s : State) : P (forChannels f s) = P s :=
  foldl_keeps P (fun s c => f c s) (fun s c => h c s) _ s

@[simp] theorem noteBad_frame (c : Fin 8) (b : Bool) (s : State) :
    (noteBad c b s).now = s.now ∧
      (noteBad c b s).psc = s.psc ∧
      (noteBad c b s).spd = s.spd ∧
      (noteBad c b s).ttu = s.ttu ∧
      (noteBad c b s).tlr = s.tlr ∧
      (noteBad c b s).dtu = s.dtu ∧
      (noteBad c b s).sdu = s.sdu ∧
      (noteBad c b s).nvs = s.nvs ∧
      (noteBad c b s).host = s.host ∧
      (noteBad c b s).freeCount = s.freeCount ∧
      (noteBad c b s).pending = s.pending ∧
      (noteBad c b s).lnk = s.lnk := by
  simp [noteBad]

@[simp] theorem evalGaugeFault_frame (s : State) :
    (evalGaugeFault s).now = s.now ∧
      (evalGaugeFault s).psc = s.psc ∧
      (evalGaugeFault s).spd = s.spd ∧
      (evalGaugeFault s).tlr = s.tlr ∧
      (evalGaugeFault s).dtu = s.dtu ∧
      (evalGaugeFault s).sdu = s.sdu ∧
      (evalGaugeFault s).nvs = s.nvs ∧
      (evalGaugeFault s).host = s.host ∧
      (evalGaugeFault s).freeCount = s.freeCount ∧
      (evalGaugeFault s).pending = s.pending ∧
      (evalGaugeFault s).lnk.port = s.lnk.port ∧
      (evalGaugeFault s).lnk.discard = s.lnk.discard ∧
      (evalGaugeFault s).lnk.causeEcho = s.lnk.causeEcho ∧
      (evalGaugeFault s).lnk.gaugeEcho = s.lnk.gaugeEcho ∧
      (evalGaugeFault s).lnk.textEcho = s.lnk.textEcho ∧
      (evalGaugeFault s).lnk.orders = s.lnk.orders := by
  simp only [evalGaugeFault]
  repeat' split
  all_goals simp

@[simp] theorem evalGaugeStale_frame (s : State) :
    (evalGaugeStale s).now = s.now ∧
      (evalGaugeStale s).psc = s.psc ∧
      (evalGaugeStale s).spd = s.spd ∧
      (evalGaugeStale s).tlr = s.tlr ∧
      (evalGaugeStale s).dtu = s.dtu ∧
      (evalGaugeStale s).sdu = s.sdu ∧
      (evalGaugeStale s).nvs = s.nvs ∧
      (evalGaugeStale s).host = s.host ∧
      (evalGaugeStale s).freeCount = s.freeCount ∧
      (evalGaugeStale s).pending = s.pending ∧
      (evalGaugeStale s).lnk.port = s.lnk.port ∧
      (evalGaugeStale s).lnk.discard = s.lnk.discard ∧
      (evalGaugeStale s).lnk.causeEcho = s.lnk.causeEcho ∧
      (evalGaugeStale s).lnk.gaugeEcho = s.lnk.gaugeEcho ∧
      (evalGaugeStale s).lnk.textEcho = s.lnk.textEcho ∧
      (evalGaugeStale s).lnk.orders = s.lnk.orders := by
  simp only [evalGaugeStale]
  repeat' split
  all_goals simp

@[simp] theorem thresholdEvaluation_frame (c : Fin 8) (s : State) :
    (thresholdEvaluation c s).now = s.now ∧
      (thresholdEvaluation c s).psc = s.psc ∧
      (thresholdEvaluation c s).spd = s.spd ∧
      (thresholdEvaluation c s).tlr = s.tlr ∧
      (thresholdEvaluation c s).dtu = s.dtu ∧
      (thresholdEvaluation c s).sdu = s.sdu ∧
      (thresholdEvaluation c s).nvs = s.nvs ∧
      (thresholdEvaluation c s).host = s.host ∧
      (thresholdEvaluation c s).freeCount = s.freeCount ∧
      (thresholdEvaluation c s).pending = s.pending ∧
      (thresholdEvaluation c s).lnk.port = s.lnk.port ∧
      (thresholdEvaluation c s).lnk.discard = s.lnk.discard ∧
      (thresholdEvaluation c s).lnk.causeEcho = s.lnk.causeEcho ∧
      (thresholdEvaluation c s).lnk.gaugeEcho = s.lnk.gaugeEcho ∧
      (thresholdEvaluation c s).lnk.textEcho = s.lnk.textEcho ∧
      (thresholdEvaluation c s).lnk.orders = s.lnk.orders := by
  simp only [thresholdEvaluation]
  repeat' split
  all_goals simp

@[simp] theorem offerTo_frame (v : Nat) (c : Fin 8) (s : State) :
    (offerTo v c s).now = s.now ∧
      (offerTo v c s).psc = s.psc ∧
      (offerTo v c s).spd = s.spd ∧
      (offerTo v c s).tlr = s.tlr ∧
      (offerTo v c s).dtu = s.dtu ∧
      (offerTo v c s).sdu = s.sdu ∧
      (offerTo v c s).nvs = s.nvs ∧
      (offerTo v c s).host = s.host ∧
      (offerTo v c s).freeCount = s.freeCount ∧
      (offerTo v c s).pending = s.pending ∧
      (offerTo v c s).lnk.port = s.lnk.port ∧
      (offerTo v c s).lnk.discard = s.lnk.discard ∧
      (offerTo v c s).lnk.causeEcho = s.lnk.causeEcho ∧
      (offerTo v c s).lnk.gaugeEcho = s.lnk.gaugeEcho ∧
      (offerTo v c s).lnk.textEcho = s.lnk.textEcho ∧
      (offerTo v c s).lnk.orders = s.lnk.orders := by
  simp only [offerTo]
  repeat' split
  all_goals simp

@[simp] theorem offer_frame (v : Nat) (s : State) :
    (offer v s).now = s.now ∧
      (offer v s).psc = s.psc ∧
      (offer v s).spd = s.spd ∧
      (offer v s).tlr = s.tlr ∧
      (offer v s).dtu = s.dtu ∧
      (offer v s).sdu = s.sdu ∧
      (offer v s).nvs = s.nvs ∧
      (offer v s).host = s.host ∧
      (offer v s).freeCount = s.freeCount ∧
      (offer v s).pending = s.pending ∧
      (offer v s).lnk.port = s.lnk.port ∧
      (offer v s).lnk.discard = s.lnk.discard ∧
      (offer v s).lnk.causeEcho = s.lnk.causeEcho ∧
      (offer v s).lnk.gaugeEcho = s.lnk.gaugeEcho ∧
      (offer v s).lnk.textEcho = s.lnk.textEcho ∧
      (offer v s).lnk.orders = s.lnk.orders := by
  unfold offer
  unfold forChannels
  exact ⟨foldl_keeps (fun s => s.now) _ (fun s a => by simp) _ _,
    foldl_keeps (fun s => s.psc) _ (fun s a => by simp) _ _,
    foldl_keeps (fun s => s.spd) _ (fun s a => by simp) _ _,
    foldl_keeps (fun s => s.tlr) _ (fun s a => by simp) _ _,
    foldl_keeps (fun s => s.dtu) _ (fun s a => by simp) _ _,
    foldl_keeps (fun s => s.sdu) _ (fun s a => by simp) _ _,
    foldl_keeps (fun s => s.nvs) _ (fun s a => by simp) _ _,
    foldl_keeps (fun s => s.host) _ (fun s a => by simp) _ _,
    foldl_keeps (fun s => s.freeCount) _ (fun s a => by simp) _ _,
    foldl_keeps (fun s => s.pending) _ (fun s a => by simp) _ _,
    foldl_keeps (fun s => s.lnk.port) _ (fun s a => by simp) _ _,
    foldl_keeps (fun s => s.lnk.discard) _ (fun s a => by simp) _ _,
    foldl_keeps (fun s => s.lnk.causeEcho) _ (fun s a => by simp) _ _,
    foldl_keeps (fun s => s.lnk.gaugeEcho) _ (fun s a => by simp) _ _,
    foldl_keeps (fun s => s.lnk.textEcho) _ (fun s a => by simp) _ _,
    foldl_keeps (fun s => s.lnk.orders) _ (fun s a => by simp) _ _⟩

@[simp] theorem enterHoming_frame (c : Fin 8) (s : State) :
    (enterHoming c s).now = s.now ∧
      (enterHoming c s).psc = s.psc ∧
      (enterHoming c s).spd = s.spd ∧
      (enterHoming c s).ttu = s.ttu ∧
      (enterHoming c s).tlr = s.tlr ∧
      (enterHoming c s).dtu = s.dtu ∧
      (enterHoming c s).sdu = s.sdu ∧
      (enterHoming c s).nvs = s.nvs ∧
      (enterHoming c s).host = s.host ∧
      (enterHoming c s).freeCount = s.freeCount ∧
      (enterHoming c s).pending = s.pending ∧
      (enterHoming c s).lnk = s.lnk := by
  simp [enterHoming]

@[simp] theorem endHoming_frame (c : Fin 8) (s : State) :
    (endHoming c s).now = s.now ∧
      (endHoming c s).psc = s.psc ∧
      (endHoming c s).spd = s.spd ∧
      (endHoming c s).tlr = s.tlr ∧
      (endHoming c s).dtu = s.dtu ∧
      (endHoming c s).sdu = s.sdu ∧
      (endHoming c s).nvs = s.nvs ∧
      (endHoming c s).host = s.host ∧
      (endHoming c s).freeCount = s.freeCount ∧
      (endHoming c s).pending = s.pending ∧
      (endHoming c s).lnk.port = s.lnk.port ∧
      (endHoming c s).lnk.discard = s.lnk.discard ∧
      (endHoming c s).lnk.causeEcho = s.lnk.causeEcho ∧
      (endHoming c s).lnk.gaugeEcho = s.lnk.gaugeEcho ∧
      (endHoming c s).lnk.textEcho = s.lnk.textEcho ∧
      (endHoming c s).lnk.orders = s.lnk.orders := by
  simp only [endHoming]
  repeat' split
  all_goals simp

@[simp] theorem postGauge_frame (c : Fin 8) (x : ChannelState) (p : Nat) (s : State) :
    (postGauge c x p s).now = s.now ∧
      (postGauge c x p s).psc = s.psc ∧
      (postGauge c x p s).spd = s.spd ∧
      (postGauge c x p s).gau = s.gau ∧
      (postGauge c x p s).ttu = s.ttu ∧
      (postGauge c x p s).tlr = s.tlr ∧
      (postGauge c x p s).dtu = s.dtu ∧
      (postGauge c x p s).sdu = s.sdu ∧
      (postGauge c x p s).nvs = s.nvs ∧
      (postGauge c x p s).host = s.host ∧
      (postGauge c x p s).freeCount = s.freeCount ∧
      (postGauge c x p s).pending = s.pending ∧
      (postGauge c x p s).lnk.port = s.lnk.port ∧
      (postGauge c x p s).lnk.discard = s.lnk.discard ∧
      (postGauge c x p s).lnk.causeEcho = s.lnk.causeEcho ∧
      (postGauge c x p s).lnk.gaugeEcho = s.lnk.gaugeEcho ∧
      (postGauge c x p s).lnk.textEcho = s.lnk.textEcho ∧
      (postGauge c x p s).lnk.orders = s.lnk.orders := by
  simp [postGauge]

@[simp] theorem stall_frame (c : Fin 8) (s : State) :
    (stall c s).now = s.now ∧
      (stall c s).psc = s.psc ∧
      (stall c s).spd = s.spd ∧
      (stall c s).tlr = s.tlr ∧
      (stall c s).dtu = s.dtu ∧
      (stall c s).sdu = s.sdu ∧
      (stall c s).nvs = s.nvs ∧
      (stall c s).host = s.host ∧
      (stall c s).freeCount = s.freeCount ∧
      (stall c s).pending = s.pending ∧
      (stall c s).lnk.port = s.lnk.port ∧
      (stall c s).lnk.discard = s.lnk.discard ∧
      (stall c s).lnk.causeEcho = s.lnk.causeEcho ∧
      (stall c s).lnk.gaugeEcho = s.lnk.gaugeEcho ∧
      (stall c s).lnk.textEcho = s.lnk.textEcho ∧
      (stall c s).lnk.orders = s.lnk.orders := by
  simp only [stall]
  repeat' split
  all_goals simp

@[simp] theorem rehomeChannel_frame (c : Fin 8) (s : State) :
    (rehomeChannel c s).now = s.now ∧
      (rehomeChannel c s).psc = s.psc ∧
      (rehomeChannel c s).spd = s.spd ∧
      (rehomeChannel c s).tlr = s.tlr ∧
      (rehomeChannel c s).dtu = s.dtu ∧
      (rehomeChannel c s).sdu = s.sdu ∧
      (rehomeChannel c s).nvs = s.nvs ∧
      (rehomeChannel c s).host = s.host ∧
      (rehomeChannel c s).freeCount = s.freeCount ∧
      (rehomeChannel c s).pending = s.pending ∧
      (rehomeChannel c s).lnk.port = s.lnk.port ∧
      (rehomeChannel c s).lnk.discard = s.lnk.discard ∧
      (rehomeChannel c s).lnk.causeEcho = s.lnk.causeEcho ∧
      (rehomeChannel c s).lnk.gaugeEcho = s.lnk.gaugeEcho ∧
      (rehomeChannel c s).lnk.textEcho = s.lnk.textEcho ∧
      (rehomeChannel c s).lnk.orders = s.lnk.orders := by
  simp only [rehomeChannel]
  repeat' split
  all_goals simp

@[simp] theorem rehomeMask_frame (m : Byte) (s : State) :
    (rehomeMask m s).now = s.now ∧
      (rehomeMask m s).psc = s.psc ∧
      (rehomeMask m s).spd = s.spd ∧
      (rehomeMask m s).tlr = s.tlr ∧
      (rehomeMask m s).dtu = s.dtu ∧
      (rehomeMask m s).sdu = s.sdu ∧
      (rehomeMask m s).nvs = s.nvs ∧
      (rehomeMask m s).host = s.host ∧
      (rehomeMask m s).freeCount = s.freeCount ∧
      (rehomeMask m s).pending = s.pending ∧
      (rehomeMask m s).lnk.port = s.lnk.port ∧
      (rehomeMask m s).lnk.discard = s.lnk.discard ∧
      (rehomeMask m s).lnk.causeEcho = s.lnk.causeEcho ∧
      (rehomeMask m s).lnk.gaugeEcho = s.lnk.gaugeEcho ∧
      (rehomeMask m s).lnk.textEcho = s.lnk.textEcho ∧
      (rehomeMask m s).lnk.orders = s.lnk.orders := by
  unfold rehomeMask
  unfold forChannels
  exact ⟨foldl_keeps (fun s => s.now) _ (fun s a => by dsimp only; split <;> simp) _ _,
    foldl_keeps (fun s => s.psc) _ (fun s a => by dsimp only; split <;> simp) _ _,
    foldl_keeps (fun s => s.spd) _ (fun s a => by dsimp only; split <;> simp) _ _,
    foldl_keeps (fun s => s.tlr) _ (fun s a => by dsimp only; split <;> simp) _ _,
    foldl_keeps (fun s => s.dtu) _ (fun s a => by dsimp only; split <;> simp) _ _,
    foldl_keeps (fun s => s.sdu) _ (fun s a => by dsimp only; split <;> simp) _ _,
    foldl_keeps (fun s => s.nvs) _ (fun s a => by dsimp only; split <;> simp) _ _,
    foldl_keeps (fun s => s.host) _ (fun s a => by dsimp only; split <;> simp) _ _,
    foldl_keeps (fun s => s.freeCount) _ (fun s a => by dsimp only; split <;> simp) _ _,
    foldl_keeps (fun s => s.pending) _ (fun s a => by dsimp only; split <;> simp) _ _,
    foldl_keeps (fun s => s.lnk.port) _ (fun s a => by dsimp only; split <;> simp) _ _,
    foldl_keeps (fun s => s.lnk.discard) _ (fun s a => by dsimp only; split <;> simp) _ _,
    foldl_keeps (fun s => s.lnk.causeEcho) _ (fun s a => by dsimp only; split <;> simp) _ _,
    foldl_keeps (fun s => s.lnk.gaugeEcho) _ (fun s a => by dsimp only; split <;> simp) _ _,
    foldl_keeps (fun s => s.lnk.textEcho) _ (fun s a => by dsimp only; split <;> simp) _ _,
    foldl_keeps (fun s => s.lnk.orders) _ (fun s a => by dsimp only; split <;> simp) _ _⟩

@[simp] theorem applySourceChange_frame (c : Fin 8) (s : State) :
    (applySourceChange c s).now = s.now ∧
      (applySourceChange c s).psc = s.psc ∧
      (applySourceChange c s).spd = s.spd ∧
      (applySourceChange c s).tlr = s.tlr ∧
      (applySourceChange c s).dtu = s.dtu ∧
      (applySourceChange c s).sdu = s.sdu ∧
      (applySourceChange c s).nvs = s.nvs ∧
      (applySourceChange c s).host = s.host ∧
      (applySourceChange c s).freeCount = s.freeCount ∧
      (applySourceChange c s).pending = s.pending ∧
      (applySourceChange c s).lnk.port = s.lnk.port ∧
      (applySourceChange c s).lnk.discard = s.lnk.discard ∧
      (applySourceChange c s).lnk.causeEcho = s.lnk.causeEcho ∧
      (applySourceChange c s).lnk.gaugeEcho = s.lnk.gaugeEcho ∧
      (applySourceChange c s).lnk.textEcho = s.lnk.textEcho ∧
      (applySourceChange c s).lnk.orders = s.lnk.orders := by
  simp only [applySourceChange]
  repeat' split
  all_goals simp

@[simp] theorem tableCheck_frame (c : Fin 8) (s : State) :
    (tableCheck c s).now = s.now ∧
      (tableCheck c s).psc = s.psc ∧
      (tableCheck c s).spd = s.spd ∧
      (tableCheck c s).tlr = s.tlr ∧
      (tableCheck c s).dtu = s.dtu ∧
      (tableCheck c s).sdu = s.sdu ∧
      (tableCheck c s).nvs = s.nvs ∧
      (tableCheck c s).host = s.host ∧
      (tableCheck c s).freeCount = s.freeCount ∧
      (tableCheck c s).pending = s.pending ∧
      (tableCheck c s).lnk.port = s.lnk.port ∧
      (tableCheck c s).lnk.discard = s.lnk.discard ∧
      (tableCheck c s).lnk.causeEcho = s.lnk.causeEcho ∧
      (tableCheck c s).lnk.gaugeEcho = s.lnk.gaugeEcho ∧
      (tableCheck c s).lnk.textEcho = s.lnk.textEcho ∧
      (tableCheck c s).lnk.orders = s.lnk.orders := by
  simp only [tableCheck]
  repeat' split
  all_goals simp

@[simp] theorem filterChannel_frame (c : Fin 8) (s : State) :
    (filterChannel c s).now = s.now ∧
      (filterChannel c s).psc = s.psc ∧
      (filterChannel c s).spd = s.spd ∧
      (filterChannel c s).tlr = s.tlr ∧
      (filterChannel c s).dtu = s.dtu ∧
      (filterChannel c s).sdu = s.sdu ∧
      (filterChannel c s).nvs = s.nvs ∧
      (filterChannel c s).host = s.host ∧
      (filterChannel c s).freeCount = s.freeCount ∧
      (filterChannel c s).pending = s.pending ∧
      (filterChannel c s).lnk.port = s.lnk.port ∧
      (filterChannel c s).lnk.discard = s.lnk.discard ∧
      (filterChannel c s).lnk.causeEcho = s.lnk.causeEcho ∧
      (filterChannel c s).lnk.gaugeEcho = s.lnk.gaugeEcho ∧
      (filterChannel c s).lnk.textEcho = s.lnk.textEcho ∧
      (filterChannel c s).lnk.orders = s.lnk.orders := by
  simp only [filterChannel]
  repeat' split
  all_goals simp

@[simp] theorem stepHoming_frame (b : Bool) (c : Fin 8) (s : State) :
    (stepHoming b c s).now = s.now ∧
      (stepHoming b c s).psc = s.psc ∧
      (stepHoming b c s).spd = s.spd ∧
      (stepHoming b c s).tlr = s.tlr ∧
      (stepHoming b c s).dtu = s.dtu ∧
      (stepHoming b c s).sdu = s.sdu ∧
      (stepHoming b c s).nvs = s.nvs ∧
      (stepHoming b c s).host = s.host ∧
      (stepHoming b c s).freeCount = s.freeCount ∧
      (stepHoming b c s).pending = s.pending ∧
      (stepHoming b c s).lnk.port = s.lnk.port ∧
      (stepHoming b c s).lnk.discard = s.lnk.discard ∧
      (stepHoming b c s).lnk.causeEcho = s.lnk.causeEcho ∧
      (stepHoming b c s).lnk.gaugeEcho = s.lnk.gaugeEcho ∧
      (stepHoming b c s).lnk.textEcho = s.lnk.textEcho ∧
      (stepHoming b c s).lnk.orders = s.lnk.orders := by
  simp only [stepHoming]
  repeat' split
  all_goals simp

@[simp] theorem arrive_frame (c : Fin 8) (g : Nat) (s : State) :
    (arrive c g s).now = s.now ∧
      (arrive c g s).psc = s.psc ∧
      (arrive c g s).spd = s.spd ∧
      (arrive c g s).tlr = s.tlr ∧
      (arrive c g s).dtu = s.dtu ∧
      (arrive c g s).sdu = s.sdu ∧
      (arrive c g s).nvs = s.nvs ∧
      (arrive c g s).host = s.host ∧
      (arrive c g s).freeCount = s.freeCount ∧
      (arrive c g s).pending = s.pending ∧
      (arrive c g s).lnk.port = s.lnk.port ∧
      (arrive c g s).lnk.discard = s.lnk.discard ∧
      (arrive c g s).lnk.causeEcho = s.lnk.causeEcho ∧
      (arrive c g s).lnk.gaugeEcho = s.lnk.gaugeEcho ∧
      (arrive c g s).lnk.textEcho = s.lnk.textEcho ∧
      (arrive c g s).lnk.orders = s.lnk.orders := by
  simp only [arrive]
  repeat' split
  all_goals simp

@[simp] theorem stepMoving_frame (b : Bool) (c : Fin 8) (s : State) :
    (stepMoving b c s).now = s.now ∧
      (stepMoving b c s).psc = s.psc ∧
      (stepMoving b c s).spd = s.spd ∧
      (stepMoving b c s).tlr = s.tlr ∧
      (stepMoving b c s).dtu = s.dtu ∧
      (stepMoving b c s).sdu = s.sdu ∧
      (stepMoving b c s).nvs = s.nvs ∧
      (stepMoving b c s).host = s.host ∧
      (stepMoving b c s).freeCount = s.freeCount ∧
      (stepMoving b c s).pending = s.pending ∧
      (stepMoving b c s).lnk.port = s.lnk.port ∧
      (stepMoving b c s).lnk.discard = s.lnk.discard ∧
      (stepMoving b c s).lnk.causeEcho = s.lnk.causeEcho ∧
      (stepMoving b c s).lnk.gaugeEcho = s.lnk.gaugeEcho ∧
      (stepMoving b c s).lnk.textEcho = s.lnk.textEcho ∧
      (stepMoving b c s).lnk.orders = s.lnk.orders := by
  simp only [stepMoving]
  repeat' split
  all_goals simp

@[simp] theorem stepChannel_frame (b : Bool) (c : Fin 8) (s : State) :
    (stepChannel b c s).now = s.now ∧
      (stepChannel b c s).psc = s.psc ∧
      (stepChannel b c s).spd = s.spd ∧
      (stepChannel b c s).tlr = s.tlr ∧
      (stepChannel b c s).dtu = s.dtu ∧
      (stepChannel b c s).sdu = s.sdu ∧
      (stepChannel b c s).nvs = s.nvs ∧
      (stepChannel b c s).host = s.host ∧
      (stepChannel b c s).freeCount = s.freeCount ∧
      (stepChannel b c s).pending = s.pending ∧
      (stepChannel b c s).lnk.port = s.lnk.port ∧
      (stepChannel b c s).lnk.discard = s.lnk.discard ∧
      (stepChannel b c s).lnk.causeEcho = s.lnk.causeEcho ∧
      (stepChannel b c s).lnk.gaugeEcho = s.lnk.gaugeEcho ∧
      (stepChannel b c s).lnk.textEcho = s.lnk.textEcho ∧
      (stepChannel b c s).lnk.orders = s.lnk.orders := by
  simp only [stepChannel]
  repeat' split
  all_goals simp

@[simp] theorem applyDemand_frame (c : Fin 8) (m : DemandMode) (v : Nat) (s : State) :
    (applyDemand c m v s).now = s.now ∧
      (applyDemand c m v s).psc = s.psc ∧
      (applyDemand c m v s).spd = s.spd ∧
      (applyDemand c m v s).tlr = s.tlr ∧
      (applyDemand c m v s).dtu = s.dtu ∧
      (applyDemand c m v s).sdu = s.sdu ∧
      (applyDemand c m v s).nvs = s.nvs ∧
      (applyDemand c m v s).host = s.host ∧
      (applyDemand c m v s).freeCount = s.freeCount ∧
      (applyDemand c m v s).pending = s.pending ∧
      (applyDemand c m v s).lnk.port = s.lnk.port ∧
      (applyDemand c m v s).lnk.discard = s.lnk.discard ∧
      (applyDemand c m v s).lnk.causeEcho = s.lnk.causeEcho ∧
      (applyDemand c m v s).lnk.gaugeEcho = s.lnk.gaugeEcho ∧
      (applyDemand c m v s).lnk.textEcho = s.lnk.textEcho ∧
      (applyDemand c m v s).lnk.orders = s.lnk.orders := by
  simp only [applyDemand]
  repeat' split
  all_goals simp

@[simp] theorem takeGaugeDemand_frame (c : Fin 8) (s : State) :
    (takeGaugeDemand c s).now = s.now ∧
      (takeGaugeDemand c s).psc = s.psc ∧
      (takeGaugeDemand c s).spd = s.spd ∧
      (takeGaugeDemand c s).tlr = s.tlr ∧
      (takeGaugeDemand c s).dtu = s.dtu ∧
      (takeGaugeDemand c s).sdu = s.sdu ∧
      (takeGaugeDemand c s).nvs = s.nvs ∧
      (takeGaugeDemand c s).host = s.host ∧
      (takeGaugeDemand c s).freeCount = s.freeCount ∧
      (takeGaugeDemand c s).pending = s.pending ∧
      (takeGaugeDemand c s).lnk.port = s.lnk.port ∧
      (takeGaugeDemand c s).lnk.discard = s.lnk.discard ∧
      (takeGaugeDemand c s).lnk.causeEcho = s.lnk.causeEcho ∧
      (takeGaugeDemand c s).lnk.textEcho = s.lnk.textEcho ∧
      (takeGaugeDemand c s).lnk.orders = s.lnk.orders := by
  simp only [takeGaugeDemand]
  repeat' split
  all_goals simp

@[simp] theorem expireFreshness_frame (c : Fin 8) (s : State) :
    (expireFreshness c s).now = s.now ∧
      (expireFreshness c s).psc = s.psc ∧
      (expireFreshness c s).spd = s.spd ∧
      (expireFreshness c s).tlr = s.tlr ∧
      (expireFreshness c s).dtu = s.dtu ∧
      (expireFreshness c s).sdu = s.sdu ∧
      (expireFreshness c s).nvs = s.nvs ∧
      (expireFreshness c s).host = s.host ∧
      (expireFreshness c s).freeCount = s.freeCount ∧
      (expireFreshness c s).pending = s.pending ∧
      (expireFreshness c s).lnk.port = s.lnk.port ∧
      (expireFreshness c s).lnk.discard = s.lnk.discard ∧
      (expireFreshness c s).lnk.causeEcho = s.lnk.causeEcho ∧
      (expireFreshness c s).lnk.gaugeEcho = s.lnk.gaugeEcho ∧
      (expireFreshness c s).lnk.textEcho = s.lnk.textEcho ∧
      (expireFreshness c s).lnk.orders = s.lnk.orders := by
  simp only [expireFreshness]
  repeat' split
  all_goals simp

@[simp] theorem channelRunEntry_frame (c : Fin 8) (s : State) :
    (channelRunEntry c s).now = s.now ∧
      (channelRunEntry c s).psc = s.psc ∧
      (channelRunEntry c s).spd = s.spd ∧
      (channelRunEntry c s).ttu = s.ttu ∧
      (channelRunEntry c s).tlr = s.tlr ∧
      (channelRunEntry c s).dtu = s.dtu ∧
      (channelRunEntry c s).sdu = s.sdu ∧
      (channelRunEntry c s).nvs = s.nvs ∧
      (channelRunEntry c s).host = s.host ∧
      (channelRunEntry c s).freeCount = s.freeCount ∧
      (channelRunEntry c s).pending = s.pending ∧
      (channelRunEntry c s).lnk = s.lnk := by
  simp only [channelRunEntry]
  repeat' split
  all_goals simp

/-- Every channel at RUN entry. -/
@[simp] theorem runChannels_frame (s : State) :
    (forChannels channelRunEntry s).now = s.now ∧
      (forChannels channelRunEntry s).psc = s.psc ∧
      (forChannels channelRunEntry s).spd = s.spd ∧
      (forChannels channelRunEntry s).ttu = s.ttu ∧
      (forChannels channelRunEntry s).tlr = s.tlr ∧
      (forChannels channelRunEntry s).dtu = s.dtu ∧
      (forChannels channelRunEntry s).sdu = s.sdu ∧
      (forChannels channelRunEntry s).nvs = s.nvs ∧
      (forChannels channelRunEntry s).host = s.host ∧
      (forChannels channelRunEntry s).freeCount = s.freeCount ∧
      (forChannels channelRunEntry s).pending = s.pending ∧
      (forChannels channelRunEntry s).lnk = s.lnk :=
  ⟨forChannels_keeps (fun s => s.now) _ (fun c s => by simp) s,
    forChannels_keeps (fun s => s.psc) _ (fun c s => by simp) s,
    forChannels_keeps (fun s => s.spd) _ (fun c s => by simp) s,
    forChannels_keeps (fun s => s.ttu) _ (fun c s => by simp) s,
    forChannels_keeps (fun s => s.tlr) _ (fun c s => by simp) s,
    forChannels_keeps (fun s => s.dtu) _ (fun c s => by simp) s,
    forChannels_keeps (fun s => s.sdu) _ (fun c s => by simp) s,
    forChannels_keeps (fun s => s.nvs) _ (fun c s => by simp) s,
    forChannels_keeps (fun s => s.host) _ (fun c s => by simp) s,
    forChannels_keeps (fun s => s.freeCount) _ (fun c s => by simp) s,
    forChannels_keeps (fun s => s.pending) _ (fun c s => by simp) s,
    forChannels_keeps (fun s => s.lnk) _ (fun c s => by simp) s⟩

@[simp] theorem gauRunEntry_frame (s : State) :
    (gauRunEntry s).now = s.now ∧
      (gauRunEntry s).psc = s.psc ∧
      (gauRunEntry s).spd = s.spd ∧
      (gauRunEntry s).tlr = s.tlr ∧
      (gauRunEntry s).dtu = s.dtu ∧
      (gauRunEntry s).sdu = s.sdu ∧
      (gauRunEntry s).nvs = s.nvs ∧
      (gauRunEntry s).host = s.host ∧
      (gauRunEntry s).freeCount = s.freeCount ∧
      (gauRunEntry s).pending = s.pending ∧
      (gauRunEntry s).lnk.port = s.lnk.port ∧
      (gauRunEntry s).lnk.discard = s.lnk.discard ∧
      (gauRunEntry s).lnk.causeEcho = s.lnk.causeEcho ∧
      (gauRunEntry s).lnk.gaugeEcho = s.lnk.gaugeEcho ∧
      (gauRunEntry s).lnk.textEcho = s.lnk.textEcho ∧
      (gauRunEntry s).lnk.orders = s.lnk.orders := by
  simp [gauRunEntry]

@[simp] theorem channelStandbyEntry_frame (c : Fin 8) (s : State) :
    (channelStandbyEntry c s).now = s.now ∧
      (channelStandbyEntry c s).psc = s.psc ∧
      (channelStandbyEntry c s).spd = s.spd ∧
      (channelStandbyEntry c s).ttu = s.ttu ∧
      (channelStandbyEntry c s).tlr = s.tlr ∧
      (channelStandbyEntry c s).dtu = s.dtu ∧
      (channelStandbyEntry c s).sdu = s.sdu ∧
      (channelStandbyEntry c s).nvs = s.nvs ∧
      (channelStandbyEntry c s).host = s.host ∧
      (channelStandbyEntry c s).freeCount = s.freeCount ∧
      (channelStandbyEntry c s).pending = s.pending ∧
      (channelStandbyEntry c s).lnk = s.lnk := by
  simp only [channelStandbyEntry]
  repeat' split
  all_goals simp

/-- Every channel at STANDBY entry. -/
@[simp] theorem standbyChannels_frame (s : State) :
    (forChannels channelStandbyEntry s).now = s.now ∧
      (forChannels channelStandbyEntry s).psc = s.psc ∧
      (forChannels channelStandbyEntry s).spd = s.spd ∧
      (forChannels channelStandbyEntry s).ttu = s.ttu ∧
      (forChannels channelStandbyEntry s).tlr = s.tlr ∧
      (forChannels channelStandbyEntry s).dtu = s.dtu ∧
      (forChannels channelStandbyEntry s).sdu = s.sdu ∧
      (forChannels channelStandbyEntry s).nvs = s.nvs ∧
      (forChannels channelStandbyEntry s).host = s.host ∧
      (forChannels channelStandbyEntry s).freeCount = s.freeCount ∧
      (forChannels channelStandbyEntry s).pending = s.pending ∧
      (forChannels channelStandbyEntry s).lnk = s.lnk :=
  ⟨forChannels_keeps (fun s => s.now) _ (fun c s => by simp) s,
    forChannels_keeps (fun s => s.psc) _ (fun c s => by simp) s,
    forChannels_keeps (fun s => s.spd) _ (fun c s => by simp) s,
    forChannels_keeps (fun s => s.ttu) _ (fun c s => by simp) s,
    forChannels_keeps (fun s => s.tlr) _ (fun c s => by simp) s,
    forChannels_keeps (fun s => s.dtu) _ (fun c s => by simp) s,
    forChannels_keeps (fun s => s.sdu) _ (fun c s => by simp) s,
    forChannels_keeps (fun s => s.nvs) _ (fun c s => by simp) s,
    forChannels_keeps (fun s => s.host) _ (fun c s => by simp) s,
    forChannels_keeps (fun s => s.freeCount) _ (fun c s => by simp) s,
    forChannels_keeps (fun s => s.pending) _ (fun c s => by simp) s,
    forChannels_keeps (fun s => s.lnk) _ (fun c s => by simp) s⟩

@[simp] theorem gauStandbyEntry_frame (s : State) :
    (gauStandbyEntry s).now = s.now ∧
      (gauStandbyEntry s).psc = s.psc ∧
      (gauStandbyEntry s).spd = s.spd ∧
      (gauStandbyEntry s).ttu = s.ttu ∧
      (gauStandbyEntry s).tlr = s.tlr ∧
      (gauStandbyEntry s).dtu = s.dtu ∧
      (gauStandbyEntry s).sdu = s.sdu ∧
      (gauStandbyEntry s).nvs = s.nvs ∧
      (gauStandbyEntry s).host = s.host ∧
      (gauStandbyEntry s).freeCount = s.freeCount ∧
      (gauStandbyEntry s).pending = s.pending ∧
      (gauStandbyEntry s).lnk = s.lnk := by
  simp [gauStandbyEntry]

/-- Every channel at a filter event. -/
@[simp] theorem filterChannels_frame (s : State) :
    (forChannels filterChannel s).now = s.now ∧
      (forChannels filterChannel s).psc = s.psc ∧
      (forChannels filterChannel s).spd = s.spd ∧
      (forChannels filterChannel s).tlr = s.tlr ∧
      (forChannels filterChannel s).dtu = s.dtu ∧
      (forChannels filterChannel s).sdu = s.sdu ∧
      (forChannels filterChannel s).nvs = s.nvs ∧
      (forChannels filterChannel s).host = s.host ∧
      (forChannels filterChannel s).freeCount = s.freeCount ∧
      (forChannels filterChannel s).pending = s.pending ∧
      (forChannels filterChannel s).lnk.port = s.lnk.port ∧
      (forChannels filterChannel s).lnk.discard = s.lnk.discard ∧
      (forChannels filterChannel s).lnk.causeEcho = s.lnk.causeEcho ∧
      (forChannels filterChannel s).lnk.gaugeEcho = s.lnk.gaugeEcho ∧
      (forChannels filterChannel s).lnk.textEcho = s.lnk.textEcho ∧
      (forChannels filterChannel s).lnk.orders = s.lnk.orders :=
  ⟨forChannels_keeps (fun s => s.now) _ (fun c s => by simp) s,
    forChannels_keeps (fun s => s.psc) _ (fun c s => by simp) s,
    forChannels_keeps (fun s => s.spd) _ (fun c s => by simp) s,
    forChannels_keeps (fun s => s.tlr) _ (fun c s => by simp) s,
    forChannels_keeps (fun s => s.dtu) _ (fun c s => by simp) s,
    forChannels_keeps (fun s => s.sdu) _ (fun c s => by simp) s,
    forChannels_keeps (fun s => s.nvs) _ (fun c s => by simp) s,
    forChannels_keeps (fun s => s.host) _ (fun c s => by simp) s,
    forChannels_keeps (fun s => s.freeCount) _ (fun c s => by simp) s,
    forChannels_keeps (fun s => s.pending) _ (fun c s => by simp) s,
    forChannels_keeps (fun s => s.lnk.port) _ (fun c s => by simp) s,
    forChannels_keeps (fun s => s.lnk.discard) _ (fun c s => by simp) s,
    forChannels_keeps (fun s => s.lnk.causeEcho) _ (fun c s => by simp) s,
    forChannels_keeps (fun s => s.lnk.gaugeEcho) _ (fun c s => by simp) s,
    forChannels_keeps (fun s => s.lnk.textEcho) _ (fun c s => by simp) s,
    forChannels_keeps (fun s => s.lnk.orders) _ (fun c s => by simp) s⟩

/-- Every channel at a step event. -/
@[simp] theorem stepChannels_frame (f : Fin 8 → Bool) (s : State) :
    (forChannels (fun c => stepChannel (f c) c) s).now = s.now ∧
      (forChannels (fun c => stepChannel (f c) c) s).psc = s.psc ∧
      (forChannels (fun c => stepChannel (f c) c) s).spd = s.spd ∧
      (forChannels (fun c => stepChannel (f c) c) s).tlr = s.tlr ∧
      (forChannels (fun c => stepChannel (f c) c) s).dtu = s.dtu ∧
      (forChannels (fun c => stepChannel (f c) c) s).sdu = s.sdu ∧
      (forChannels (fun c => stepChannel (f c) c) s).nvs = s.nvs ∧
      (forChannels (fun c => stepChannel (f c) c) s).host = s.host ∧
      (forChannels (fun c => stepChannel (f c) c) s).freeCount = s.freeCount ∧
      (forChannels (fun c => stepChannel (f c) c) s).pending = s.pending ∧
      (forChannels (fun c => stepChannel (f c) c) s).lnk.port = s.lnk.port ∧
      (forChannels (fun c => stepChannel (f c) c) s).lnk.discard = s.lnk.discard ∧
      (forChannels (fun c => stepChannel (f c) c) s).lnk.causeEcho = s.lnk.causeEcho ∧
      (forChannels (fun c => stepChannel (f c) c) s).lnk.gaugeEcho = s.lnk.gaugeEcho ∧
      (forChannels (fun c => stepChannel (f c) c) s).lnk.textEcho = s.lnk.textEcho ∧
      (forChannels (fun c => stepChannel (f c) c) s).lnk.orders = s.lnk.orders :=
  ⟨forChannels_keeps (fun s => s.now) _ (fun c s => by simp) s,
    forChannels_keeps (fun s => s.psc) _ (fun c s => by simp) s,
    forChannels_keeps (fun s => s.spd) _ (fun c s => by simp) s,
    forChannels_keeps (fun s => s.tlr) _ (fun c s => by simp) s,
    forChannels_keeps (fun s => s.dtu) _ (fun c s => by simp) s,
    forChannels_keeps (fun s => s.sdu) _ (fun c s => by simp) s,
    forChannels_keeps (fun s => s.nvs) _ (fun c s => by simp) s,
    forChannels_keeps (fun s => s.host) _ (fun c s => by simp) s,
    forChannels_keeps (fun s => s.freeCount) _ (fun c s => by simp) s,
    forChannels_keeps (fun s => s.pending) _ (fun c s => by simp) s,
    forChannels_keeps (fun s => s.lnk.port) _ (fun c s => by simp) s,
    forChannels_keeps (fun s => s.lnk.discard) _ (fun c s => by simp) s,
    forChannels_keeps (fun s => s.lnk.causeEcho) _ (fun c s => by simp) s,
    forChannels_keeps (fun s => s.lnk.gaugeEcho) _ (fun c s => by simp) s,
    forChannels_keeps (fun s => s.lnk.textEcho) _ (fun c s => by simp) s,
    forChannels_keeps (fun s => s.lnk.orders) _ (fun c s => by simp) s⟩

end Sys2Proof.Machine
end

