-- ==== Sys2Proof/Laws/Journal.lean ====
section
/-! SUPPORT. What posting and draining do (R172–R175), and the most urgent cause of a lighting set (R64). -/

namespace Sys2Proof.Machine

/-- A record folded into the backlog stands there as its kind's entry. -/
theorem foldInto_entry (k : RecordKind) (d m : Nat) (p : List Byte) (l : List BacklogEntry) :
    ∃ e ∈ foldInto k d m p l, e.kind = k ∧ e.day = d ∧ e.minute = m ∧ e.payload = p := by
  induction l with
  | nil => exact ⟨_, List.mem_singleton.2 rfl, rfl, rfl, rfl, rfl⟩
  | cons e es ih =>
    rw [foldInto]
    split
    · exact ⟨_, List.mem_cons_self .., rfl, rfl, rfl, rfl⟩
    · obtain ⟨x, hx, h⟩ := ih
      exact ⟨x, List.mem_cons_of_mem _ hx, h⟩

/-- Folding keeps the order of the kinds, and adds a new kind at the end. -/
theorem foldInto_kinds (k : RecordKind) (d m : Nat) (p : List Byte) (l : List BacklogEntry) :
    (foldInto k d m p l).map BacklogEntry.kind =
      if k ∈ l.map BacklogEntry.kind then l.map BacklogEntry.kind else l.map BacklogEntry.kind ++ [k] := by
  induction l with
  | nil => simp [foldInto]
  | cons e es ih =>
    rw [foldInto]
    split
    · simp_all
    · rename_i hne
      simp only [List.map_cons, List.mem_cons, ih, show ¬k = e.kind from fun h => hne h.symm, false_or]
      split_ifs <;> rfl

/-- A posting fills the cursor slot with its record and leaves every other slot as it was. -/
theorem postAtCursor_slots (k : RecordKind) (f d m : Nat) (p : List Byte) (s : State) :
    (postAtCursor k f d m p s).lnk.backlog = s.lnk.backlog ∧
      (postAtCursor k f d m p s).lnk.cursor = (s.lnk.cursor + 1) % 32 ∧
      (postAtCursor k f d m p s).lnk.postCounter = (s.lnk.postCounter + 1) % 65536 ∧
      ∀ j : Fin 32, (postAtCursor k f d m p s).lnk.journal[j] =
        if j = cursorSlot s then
          { post := clearMark s j + 1, kind := k, fold := f, sequence := s.lnk.postCounter, day := d, minute := m, payload := p }
        else s.lnk.journal[j] := by
  refine ⟨rfl, rfl, rfl, fun j => ?_⟩
  simp only [postAtCursor, State.setLnk, vset, Fin.getElem_fin, Vector.getElem_set]
  split_ifs with h h' h'
  · rw [Fin.ext h.symm]
  · exact absurd (Fin.ext h.symm) h'
  · exact absurd (congrArg Fin.val h'.symm) h
  · rfl

/-- A block's record stands in the slot that was at the cursor, or in the backlog. -/
theorem post_recorded (k : RecordKind) (p : List Byte) (s : State) : Recorded (post k p s) s k p := by
  simp only [post]
  split
  · obtain ⟨e, he, hk, -, -, hp⟩ := foldInto_entry k (s.dtu.day % 512) s.dtu.minute (padTo 8 p) s.lnk.backlog
    exact .inr ⟨‹_›, e, he, hk, hp⟩
  · have h := (postAtCursor_slots k 1 (s.dtu.day % 512) s.dtu.minute (padTo 8 p) s).2.2.2 (cursorSlot s)
    rw [if_pos rfl] at h
    exact .inl ⟨Bool.eq_false_iff.2 ‹_›, by rw [h], by rw [h]⟩

/-- Draining ends with an empty backlog or a filled slot at the cursor. -/
theorem drain_ends (l : List BacklogEntry) (s : State) :
    (drain l s).lnk.backlog = [] ∨ slotFilled (drain l s) (cursorSlot (drain l s)) = true := by
  induction l generalizing s with
  | nil => exact .inl rfl
  | cons e es ih =>
    rw [drain]
    split
    · exact .inr ‹_›
    · exact ih _

/-- Draining leaves a tail of the backlog. -/
theorem drain_suffix (l : List BacklogEntry) (s : State) : (drain l s).lnk.backlog <:+ l := by
  induction l generalizing s with
  | nil => exact List.suffix_refl _
  | cons e es ih =>
    rw [drain]
    split
    · exact List.suffix_refl _
    · exact (ih _).trans (List.suffix_cons ..)

/-- A command while no reset holds the part acts at its instant. -/
theorem live_awake {s : State} (h : Awake s) (t : Nat) (f : State → State) : live t f s = .next (f (tick t s)) := by
  simp only [live, show s.psc.held = false from h, Bool.false_eq_true, if_false]

/-- Every lit cause of a list has a most urgent one. -/
theorem mostUrgent_none {cs : List LitCause} : mostUrgent cs = none ↔ cs = [] := by
  cases cs with
  | nil => simp [mostUrgent]
  | cons c cs =>
    rw [mostUrgent]
    split <;> simp
    split <;> simp

/-- The most urgent cause is of the list, and no cause of the list is more urgent (R64). -/
theorem mostUrgent_least {cs : List LitCause} {c : LitCause} (h : mostUrgent cs = some c) :
    c ∈ cs ∧ ∀ d ∈ cs, c.cls ≤ d.cls := by
  induction cs generalizing c with
  | nil => simp [mostUrgent] at h
  | cons e es ih =>
    rw [mostUrgent] at h
    split at h
    · rename_i hn
      obtain rfl := Option.some.inj h
      rw [mostUrgent_none] at hn
      subst hn
      simp
    · rename_i d hd
      obtain ⟨hm, hl⟩ := ih hd
      split at h <;> obtain rfl := Option.some.inj h
      · exact ⟨List.mem_cons_self .., fun x hx => by
          rcases List.mem_cons.1 hx with rfl | hx
          · exact le_refl _
          · exact le_trans ‹_› (hl x hx)⟩
      · exact ⟨List.mem_cons_of_mem _ hm, fun x hx => by
          rcases List.mem_cons.1 hx with rfl | hx
          · omega
          · exact hl x hx⟩

end Sys2Proof.Machine
end

