-- ==== Sys2Proof/Laws/StoreFrames.lean ====
section
/-! SUPPORT. What the order logic's and NVS's shared operations leave alone. -/

namespace Sys2Proof.Machine

@[simp] theorem answerOrder_frame (k : Fin 8) (r : Byte) (d : Nat) (s : State) :
    (answerOrder k r d s).now = s.now ∧
      (answerOrder k r d s).psc = s.psc ∧
      (answerOrder k r d s).spd = s.spd ∧
      (answerOrder k r d s).gau = s.gau ∧
      (answerOrder k r d s).ttu = s.ttu ∧
      (answerOrder k r d s).tlr = s.tlr ∧
      (answerOrder k r d s).dtu = s.dtu ∧
      (answerOrder k r d s).sdu = s.sdu ∧
      (answerOrder k r d s).nvs = s.nvs ∧
      (answerOrder k r d s).host = s.host ∧
      (answerOrder k r d s).freeCount = s.freeCount ∧
      (answerOrder k r d s).pending = s.pending ∧
      (answerOrder k r d s).lnk.port = s.lnk.port ∧
      (answerOrder k r d s).lnk.discard = s.lnk.discard ∧
      (answerOrder k r d s).lnk.causeEcho = s.lnk.causeEcho ∧
      (answerOrder k r d s).lnk.gaugeEcho = s.lnk.gaugeEcho ∧
      (answerOrder k r d s).lnk.textEcho = s.lnk.textEcho ∧
      (answerOrder k r d s).lnk.journal = s.lnk.journal ∧
      (answerOrder k r d s).lnk.cursor = s.lnk.cursor ∧
      (answerOrder k r d s).lnk.postCounter = s.lnk.postCounter ∧
      (answerOrder k r d s).lnk.backlog = s.lnk.backlog := by
  simp [answerOrder]

@[simp] theorem beginOrder_frame (k : Fin 8) (p : Progress) (s : State) :
    (beginOrder k p s).now = s.now ∧
      (beginOrder k p s).psc = s.psc ∧
      (beginOrder k p s).spd = s.spd ∧
      (beginOrder k p s).gau = s.gau ∧
      (beginOrder k p s).ttu = s.ttu ∧
      (beginOrder k p s).tlr = s.tlr ∧
      (beginOrder k p s).dtu = s.dtu ∧
      (beginOrder k p s).sdu = s.sdu ∧
      (beginOrder k p s).nvs = s.nvs ∧
      (beginOrder k p s).host = s.host ∧
      (beginOrder k p s).freeCount = s.freeCount ∧
      (beginOrder k p s).pending = s.pending ∧
      (beginOrder k p s).lnk.port = s.lnk.port ∧
      (beginOrder k p s).lnk.discard = s.lnk.discard ∧
      (beginOrder k p s).lnk.causeEcho = s.lnk.causeEcho ∧
      (beginOrder k p s).lnk.gaugeEcho = s.lnk.gaugeEcho ∧
      (beginOrder k p s).lnk.textEcho = s.lnk.textEcho ∧
      (beginOrder k p s).lnk.journal = s.lnk.journal ∧
      (beginOrder k p s).lnk.cursor = s.lnk.cursor ∧
      (beginOrder k p s).lnk.postCounter = s.lnk.postCounter ∧
      (beginOrder k p s).lnk.backlog = s.lnk.backlog := by
  simp [beginOrder]

@[simp] theorem completeOrder_frame (k : Fin 8) (r : Byte) (d : Nat) (s : State) :
    (completeOrder k r d s).now = s.now ∧
      (completeOrder k r d s).psc = s.psc ∧
      (completeOrder k r d s).spd = s.spd ∧
      (completeOrder k r d s).gau = s.gau ∧
      (completeOrder k r d s).ttu = s.ttu ∧
      (completeOrder k r d s).tlr = s.tlr ∧
      (completeOrder k r d s).dtu = s.dtu ∧
      (completeOrder k r d s).sdu = s.sdu ∧
      (completeOrder k r d s).nvs = s.nvs ∧
      (completeOrder k r d s).host = s.host ∧
      (completeOrder k r d s).freeCount = s.freeCount ∧
      (completeOrder k r d s).pending = s.pending ∧
      (completeOrder k r d s).lnk.port = s.lnk.port ∧
      (completeOrder k r d s).lnk.discard = s.lnk.discard ∧
      (completeOrder k r d s).lnk.causeEcho = s.lnk.causeEcho ∧
      (completeOrder k r d s).lnk.gaugeEcho = s.lnk.gaugeEcho ∧
      (completeOrder k r d s).lnk.textEcho = s.lnk.textEcho := by
  simp [completeOrder]

@[simp] theorem completeAll_frame (ps : List Progress) (r : Byte) (d : Nat) (s : State) :
    (completeAll ps r d s).now = s.now ∧
      (completeAll ps r d s).psc = s.psc ∧
      (completeAll ps r d s).spd = s.spd ∧
      (completeAll ps r d s).gau = s.gau ∧
      (completeAll ps r d s).ttu = s.ttu ∧
      (completeAll ps r d s).tlr = s.tlr ∧
      (completeAll ps r d s).dtu = s.dtu ∧
      (completeAll ps r d s).sdu = s.sdu ∧
      (completeAll ps r d s).nvs = s.nvs ∧
      (completeAll ps r d s).host = s.host ∧
      (completeAll ps r d s).freeCount = s.freeCount ∧
      (completeAll ps r d s).pending = s.pending ∧
      (completeAll ps r d s).lnk.port = s.lnk.port ∧
      (completeAll ps r d s).lnk.discard = s.lnk.discard ∧
      (completeAll ps r d s).lnk.causeEcho = s.lnk.causeEcho ∧
      (completeAll ps r d s).lnk.gaugeEcho = s.lnk.gaugeEcho ∧
      (completeAll ps r d s).lnk.textEcho = s.lnk.textEcho := by
  unfold completeAll
  exact ⟨foldl_keeps (fun s => s.now) _ (fun s a => by simp) _ _,
    foldl_keeps (fun s => s.psc) _ (fun s a => by simp) _ _,
    foldl_keeps (fun s => s.spd) _ (fun s a => by simp) _ _,
    foldl_keeps (fun s => s.gau) _ (fun s a => by simp) _ _,
    foldl_keeps (fun s => s.ttu) _ (fun s a => by simp) _ _,
    foldl_keeps (fun s => s.tlr) _ (fun s a => by simp) _ _,
    foldl_keeps (fun s => s.dtu) _ (fun s a => by simp) _ _,
    foldl_keeps (fun s => s.sdu) _ (fun s a => by simp) _ _,
    foldl_keeps (fun s => s.nvs) _ (fun s a => by simp) _ _,
    foldl_keeps (fun s => s.host) _ (fun s a => by simp) _ _,
    foldl_keeps (fun s => s.freeCount) _ (fun s a => by simp) _ _,
    foldl_keeps (fun s => s.pending) _ (fun s a => by simp) _ _,
    foldl_keeps (fun s => s.lnk.port) _ (fun s a => by simp) _ _,
    foldl_keeps (fun s => s.lnk.discard) _ (fun s a => by simp) _ _,
    foldl_keeps (fun s => s.lnk.causeEcho) _ (fun s a => by simp) _ _,
    foldl_keeps (fun s => s.lnk.gaugeEcho) _ (fun s a => by simp) _ _,
    foldl_keeps (fun s => s.lnk.textEcho) _ (fun s a => by simp) _ _⟩

@[simp] theorem moveOrders_frame (a b : Progress) (s : State) :
    (moveOrders a b s).now = s.now ∧
      (moveOrders a b s).psc = s.psc ∧
      (moveOrders a b s).spd = s.spd ∧
      (moveOrders a b s).gau = s.gau ∧
      (moveOrders a b s).ttu = s.ttu ∧
      (moveOrders a b s).tlr = s.tlr ∧
      (moveOrders a b s).dtu = s.dtu ∧
      (moveOrders a b s).sdu = s.sdu ∧
      (moveOrders a b s).nvs = s.nvs ∧
      (moveOrders a b s).host = s.host ∧
      (moveOrders a b s).freeCount = s.freeCount ∧
      (moveOrders a b s).pending = s.pending ∧
      (moveOrders a b s).lnk.port = s.lnk.port ∧
      (moveOrders a b s).lnk.discard = s.lnk.discard ∧
      (moveOrders a b s).lnk.causeEcho = s.lnk.causeEcho ∧
      (moveOrders a b s).lnk.gaugeEcho = s.lnk.gaugeEcho ∧
      (moveOrders a b s).lnk.textEcho = s.lnk.textEcho ∧
      (moveOrders a b s).lnk.journal = s.lnk.journal ∧
      (moveOrders a b s).lnk.cursor = s.lnk.cursor ∧
      (moveOrders a b s).lnk.postCounter = s.lnk.postCounter ∧
      (moveOrders a b s).lnk.backlog = s.lnk.backlog := by
  simp [moveOrders]

@[simp] theorem setDue_frame (x : Nat) (b : Bool) (s : State) :
    (setDue x b s).now = s.now ∧
      (setDue x b s).psc = s.psc ∧
      (setDue x b s).spd = s.spd ∧
      (setDue x b s).gau = s.gau ∧
      (setDue x b s).ttu = s.ttu ∧
      (setDue x b s).tlr = s.tlr ∧
      (setDue x b s).dtu = s.dtu ∧
      (setDue x b s).sdu = s.sdu ∧
      (setDue x b s).host = s.host ∧
      (setDue x b s).freeCount = s.freeCount ∧
      (setDue x b s).pending = s.pending ∧
      (setDue x b s).nvs.array = s.nvs.array ∧
      (setDue x b s).nvs.active = s.nvs.active ∧
      (setDue x b s).nvs.pulse = s.nvs.pulse ∧
      (setDue x b s).nvs.locked = s.nvs.locked ∧
      (setDue x b s).nvs.loadControl = s.nvs.loadControl ∧
      (setDue x b s).lnk = s.lnk := by
  simp [setDue]

@[simp] theorem enterSector_frame (x : Nat) (s : State) :
    (enterSector x s).now = s.now ∧
      (enterSector x s).psc = s.psc ∧
      (enterSector x s).spd = s.spd ∧
      (enterSector x s).gau = s.gau ∧
      (enterSector x s).ttu = s.ttu ∧
      (enterSector x s).tlr = s.tlr ∧
      (enterSector x s).dtu = s.dtu ∧
      (enterSector x s).sdu = s.sdu ∧
      (enterSector x s).host = s.host ∧
      (enterSector x s).freeCount = s.freeCount ∧
      (enterSector x s).pending = s.pending ∧
      (enterSector x s).nvs.array = s.nvs.array ∧
      (enterSector x s).nvs.active = s.nvs.active ∧
      (enterSector x s).nvs.pulse = s.nvs.pulse ∧
      (enterSector x s).nvs.locked = s.nvs.locked ∧
      (enterSector x s).nvs.loadControl = s.nvs.loadControl ∧
      (enterSector x s).lnk = s.lnk := by
  simp only [enterSector]
  repeat' split
  all_goals simp

@[simp] theorem advanceOdo_frame (s : State) :
    (advanceOdo s).now = s.now ∧
      (advanceOdo s).psc = s.psc ∧
      (advanceOdo s).spd = s.spd ∧
      (advanceOdo s).gau = s.gau ∧
      (advanceOdo s).ttu = s.ttu ∧
      (advanceOdo s).tlr = s.tlr ∧
      (advanceOdo s).dtu = s.dtu ∧
      (advanceOdo s).sdu = s.sdu ∧
      (advanceOdo s).host = s.host ∧
      (advanceOdo s).freeCount = s.freeCount ∧
      (advanceOdo s).pending = s.pending ∧
      (advanceOdo s).nvs.array = s.nvs.array ∧
      (advanceOdo s).nvs.active = s.nvs.active ∧
      (advanceOdo s).nvs.pulse = s.nvs.pulse ∧
      (advanceOdo s).nvs.locked = s.nvs.locked ∧
      (advanceOdo s).nvs.loadControl = s.nvs.loadControl ∧
      (advanceOdo s).lnk = s.lnk := by
  simp only [advanceOdo]
  repeat' split
  all_goals simp

@[simp] theorem advanceSnap_frame (s : State) :
    (advanceSnap s).now = s.now ∧
      (advanceSnap s).psc = s.psc ∧
      (advanceSnap s).spd = s.spd ∧
      (advanceSnap s).gau = s.gau ∧
      (advanceSnap s).ttu = s.ttu ∧
      (advanceSnap s).tlr = s.tlr ∧
      (advanceSnap s).dtu = s.dtu ∧
      (advanceSnap s).sdu = s.sdu ∧
      (advanceSnap s).host = s.host ∧
      (advanceSnap s).freeCount = s.freeCount ∧
      (advanceSnap s).pending = s.pending ∧
      (advanceSnap s).nvs.array = s.nvs.array ∧
      (advanceSnap s).nvs.active = s.nvs.active ∧
      (advanceSnap s).nvs.pulse = s.nvs.pulse ∧
      (advanceSnap s).nvs.locked = s.nvs.locked ∧
      (advanceSnap s).nvs.loadControl = s.nvs.loadControl ∧
      (advanceSnap s).lnk = s.lnk := by
  simp only [advanceSnap]
  repeat' split
  all_goals simp

@[simp] theorem evalStoreFault_frame (s : State) :
    (evalStoreFault s).now = s.now ∧
      (evalStoreFault s).psc = s.psc ∧
      (evalStoreFault s).spd = s.spd ∧
      (evalStoreFault s).gau = s.gau ∧
      (evalStoreFault s).tlr = s.tlr ∧
      (evalStoreFault s).dtu = s.dtu ∧
      (evalStoreFault s).sdu = s.sdu ∧
      (evalStoreFault s).host = s.host ∧
      (evalStoreFault s).freeCount = s.freeCount ∧
      (evalStoreFault s).pending = s.pending ∧
      (evalStoreFault s).nvs.array = s.nvs.array ∧
      (evalStoreFault s).nvs.active = s.nvs.active ∧
      (evalStoreFault s).nvs.pulse = s.nvs.pulse ∧
      (evalStoreFault s).nvs.locked = s.nvs.locked ∧
      (evalStoreFault s).nvs.loadControl = s.nvs.loadControl ∧
      (evalStoreFault s).lnk.port = s.lnk.port ∧
      (evalStoreFault s).lnk.discard = s.lnk.discard ∧
      (evalStoreFault s).lnk.causeEcho = s.lnk.causeEcho ∧
      (evalStoreFault s).lnk.gaugeEcho = s.lnk.gaugeEcho ∧
      (evalStoreFault s).lnk.textEcho = s.lnk.textEcho ∧
      (evalStoreFault s).lnk.orders = s.lnk.orders := by
  simp [evalStoreFault]

@[simp] theorem setFault_frame (k : Kind) (b : Bool) (s : State) :
    (setFault k b s).now = s.now ∧
      (setFault k b s).psc = s.psc ∧
      (setFault k b s).spd = s.spd ∧
      (setFault k b s).gau = s.gau ∧
      (setFault k b s).tlr = s.tlr ∧
      (setFault k b s).dtu = s.dtu ∧
      (setFault k b s).sdu = s.sdu ∧
      (setFault k b s).host = s.host ∧
      (setFault k b s).freeCount = s.freeCount ∧
      (setFault k b s).pending = s.pending ∧
      (setFault k b s).nvs.array = s.nvs.array ∧
      (setFault k b s).nvs.active = s.nvs.active ∧
      (setFault k b s).nvs.pulse = s.nvs.pulse ∧
      (setFault k b s).nvs.locked = s.nvs.locked ∧
      (setFault k b s).nvs.loadControl = s.nvs.loadControl ∧
      (setFault k b s).lnk.port = s.lnk.port ∧
      (setFault k b s).lnk.discard = s.lnk.discard ∧
      (setFault k b s).lnk.causeEcho = s.lnk.causeEcho ∧
      (setFault k b s).lnk.gaugeEcho = s.lnk.gaugeEcho ∧
      (setFault k b s).lnk.textEcho = s.lnk.textEcho ∧
      (setFault k b s).lnk.orders = s.lnk.orders := by
  simp [setFault]

@[simp] theorem dropRequest_frame (k : Kind) (x : Nat) (b : Bool) (s : State) :
    (dropRequest k x b s).now = s.now ∧
      (dropRequest k x b s).psc = s.psc ∧
      (dropRequest k x b s).spd = s.spd ∧
      (dropRequest k x b s).gau = s.gau ∧
      (dropRequest k x b s).tlr = s.tlr ∧
      (dropRequest k x b s).dtu = s.dtu ∧
      (dropRequest k x b s).sdu = s.sdu ∧
      (dropRequest k x b s).host = s.host ∧
      (dropRequest k x b s).freeCount = s.freeCount ∧
      (dropRequest k x b s).pending = s.pending ∧
      (dropRequest k x b s).nvs.array = s.nvs.array ∧
      (dropRequest k x b s).nvs.active = s.nvs.active ∧
      (dropRequest k x b s).nvs.pulse = s.nvs.pulse ∧
      (dropRequest k x b s).nvs.locked = s.nvs.locked ∧
      (dropRequest k x b s).nvs.loadControl = s.nvs.loadControl ∧
      (dropRequest k x b s).lnk.port = s.lnk.port ∧
      (dropRequest k x b s).lnk.discard = s.lnk.discard ∧
      (dropRequest k x b s).lnk.causeEcho = s.lnk.causeEcho ∧
      (dropRequest k x b s).lnk.gaugeEcho = s.lnk.gaugeEcho ∧
      (dropRequest k x b s).lnk.textEcho = s.lnk.textEcho := by
  simp only [dropRequest]
  repeat' split
  all_goals simp

@[simp] theorem launch_frame (u : Option EraseOp) (p : Prog) (s : State) :
    (launch u p s).now = s.now ∧
      (launch u p s).psc = s.psc ∧
      (launch u p s).spd = s.spd ∧
      (launch u p s).gau = s.gau ∧
      (launch u p s).ttu = s.ttu ∧
      (launch u p s).tlr = s.tlr ∧
      (launch u p s).dtu = s.dtu ∧
      (launch u p s).sdu = s.sdu ∧
      (launch u p s).host = s.host ∧
      (launch u p s).freeCount = s.freeCount ∧
      (launch u p s).pending = s.pending ∧
      (launch u p s).nvs.array = s.nvs.array ∧
      (launch u p s).nvs.active = s.nvs.active ∧
      (launch u p s).nvs.pulse = s.nvs.pulse ∧
      (launch u p s).nvs.locked = s.nvs.locked ∧
      (launch u p s).nvs.loadControl = s.nvs.loadControl ∧
      (launch u p s).lnk = s.lnk := by
  simp only [launch]
  repeat' split
  all_goals simp

@[simp] theorem seekOdo_frame (n : Nat) (s : State) :
    (seekOdo n s).1.now = s.now ∧
      (seekOdo n s).1.psc = s.psc ∧
      (seekOdo n s).1.spd = s.spd ∧
      (seekOdo n s).1.gau = s.gau ∧
      (seekOdo n s).1.ttu = s.ttu ∧
      (seekOdo n s).1.tlr = s.tlr ∧
      (seekOdo n s).1.dtu = s.dtu ∧
      (seekOdo n s).1.sdu = s.sdu ∧
      (seekOdo n s).1.host = s.host ∧
      (seekOdo n s).1.freeCount = s.freeCount ∧
      (seekOdo n s).1.pending = s.pending ∧
      (seekOdo n s).1.nvs.array = s.nvs.array ∧
      (seekOdo n s).1.nvs.active = s.nvs.active ∧
      (seekOdo n s).1.nvs.pulse = s.nvs.pulse ∧
      (seekOdo n s).1.nvs.locked = s.nvs.locked ∧
      (seekOdo n s).1.nvs.loadControl = s.nvs.loadControl ∧
      (seekOdo n s).1.lnk = s.lnk := by
  induction n generalizing s with
  | zero => simp [seekOdo]
  | succ n ih => unfold seekOdo; repeat' split
                 all_goals simp [ih]

@[simp] theorem seekSnap_frame (n : Nat) (s : State) :
    (seekSnap n s).1.now = s.now ∧
      (seekSnap n s).1.psc = s.psc ∧
      (seekSnap n s).1.spd = s.spd ∧
      (seekSnap n s).1.gau = s.gau ∧
      (seekSnap n s).1.ttu = s.ttu ∧
      (seekSnap n s).1.tlr = s.tlr ∧
      (seekSnap n s).1.dtu = s.dtu ∧
      (seekSnap n s).1.sdu = s.sdu ∧
      (seekSnap n s).1.host = s.host ∧
      (seekSnap n s).1.freeCount = s.freeCount ∧
      (seekSnap n s).1.pending = s.pending ∧
      (seekSnap n s).1.nvs.array = s.nvs.array ∧
      (seekSnap n s).1.nvs.active = s.nvs.active ∧
      (seekSnap n s).1.nvs.pulse = s.nvs.pulse ∧
      (seekSnap n s).1.nvs.locked = s.nvs.locked ∧
      (seekSnap n s).1.nvs.loadControl = s.nvs.loadControl ∧
      (seekSnap n s).1.lnk = s.lnk := by
  induction n generalizing s with
  | zero => simp [seekSnap]
  | succ n ih => unfold seekSnap; repeat' split
                 all_goals simp [ih]

@[simp] theorem tryOdo_frame (u : Option EraseOp) (s : State) :
    (tryOdo u s).1.now = s.now ∧
      (tryOdo u s).1.psc = s.psc ∧
      (tryOdo u s).1.spd = s.spd ∧
      (tryOdo u s).1.gau = s.gau ∧
      (tryOdo u s).1.ttu = s.ttu ∧
      (tryOdo u s).1.tlr = s.tlr ∧
      (tryOdo u s).1.dtu = s.dtu ∧
      (tryOdo u s).1.sdu = s.sdu ∧
      (tryOdo u s).1.host = s.host ∧
      (tryOdo u s).1.freeCount = s.freeCount ∧
      (tryOdo u s).1.pending = s.pending ∧
      (tryOdo u s).1.nvs.array = s.nvs.array ∧
      (tryOdo u s).1.nvs.active = s.nvs.active ∧
      (tryOdo u s).1.nvs.pulse = s.nvs.pulse ∧
      (tryOdo u s).1.nvs.locked = s.nvs.locked ∧
      (tryOdo u s).1.nvs.loadControl = s.nvs.loadControl ∧
      (tryOdo u s).1.lnk.port = s.lnk.port ∧
      (tryOdo u s).1.lnk.discard = s.lnk.discard ∧
      (tryOdo u s).1.lnk.causeEcho = s.lnk.causeEcho ∧
      (tryOdo u s).1.lnk.gaugeEcho = s.lnk.gaugeEcho ∧
      (tryOdo u s).1.lnk.textEcho = s.lnk.textEcho ∧
      (tryOdo u s).1.lnk.journal = s.lnk.journal ∧
      (tryOdo u s).1.lnk.cursor = s.lnk.cursor ∧
      (tryOdo u s).1.lnk.postCounter = s.lnk.postCounter ∧
      (tryOdo u s).1.lnk.backlog = s.lnk.backlog := by
  simp only [tryOdo]
  repeat' split
  all_goals simp

@[simp] theorem tryCal_frame (u : Option EraseOp) (s : State) :
    (tryCal u s).1.now = s.now ∧
      (tryCal u s).1.psc = s.psc ∧
      (tryCal u s).1.spd = s.spd ∧
      (tryCal u s).1.gau = s.gau ∧
      (tryCal u s).1.tlr = s.tlr ∧
      (tryCal u s).1.dtu = s.dtu ∧
      (tryCal u s).1.sdu = s.sdu ∧
      (tryCal u s).1.host = s.host ∧
      (tryCal u s).1.freeCount = s.freeCount ∧
      (tryCal u s).1.pending = s.pending ∧
      (tryCal u s).1.nvs.array = s.nvs.array ∧
      (tryCal u s).1.nvs.active = s.nvs.active ∧
      (tryCal u s).1.nvs.pulse = s.nvs.pulse ∧
      (tryCal u s).1.nvs.locked = s.nvs.locked ∧
      (tryCal u s).1.nvs.loadControl = s.nvs.loadControl ∧
      (tryCal u s).1.lnk.port = s.lnk.port ∧
      (tryCal u s).1.lnk.discard = s.lnk.discard ∧
      (tryCal u s).1.lnk.causeEcho = s.lnk.causeEcho ∧
      (tryCal u s).1.lnk.gaugeEcho = s.lnk.gaugeEcho ∧
      (tryCal u s).1.lnk.textEcho = s.lnk.textEcho := by
  simp only [tryCal]
  repeat' split
  all_goals simp

@[simp] theorem trySnap_frame (s : State) :
    (trySnap s).1.now = s.now ∧
      (trySnap s).1.psc = s.psc ∧
      (trySnap s).1.spd = s.spd ∧
      (trySnap s).1.gau = s.gau ∧
      (trySnap s).1.ttu = s.ttu ∧
      (trySnap s).1.tlr = s.tlr ∧
      (trySnap s).1.dtu = s.dtu ∧
      (trySnap s).1.sdu = s.sdu ∧
      (trySnap s).1.host = s.host ∧
      (trySnap s).1.freeCount = s.freeCount ∧
      (trySnap s).1.pending = s.pending ∧
      (trySnap s).1.nvs.array = s.nvs.array ∧
      (trySnap s).1.nvs.active = s.nvs.active ∧
      (trySnap s).1.nvs.pulse = s.nvs.pulse ∧
      (trySnap s).1.nvs.locked = s.nvs.locked ∧
      (trySnap s).1.nvs.loadControl = s.nvs.loadControl ∧
      (trySnap s).1.lnk.port = s.lnk.port ∧
      (trySnap s).1.lnk.discard = s.lnk.discard ∧
      (trySnap s).1.lnk.causeEcho = s.lnk.causeEcho ∧
      (trySnap s).1.lnk.gaugeEcho = s.lnk.gaugeEcho ∧
      (trySnap s).1.lnk.textEcho = s.lnk.textEcho ∧
      (trySnap s).1.lnk.journal = s.lnk.journal ∧
      (trySnap s).1.lnk.cursor = s.lnk.cursor ∧
      (trySnap s).1.lnk.postCounter = s.lnk.postCounter ∧
      (trySnap s).1.lnk.backlog = s.lnk.backlog := by
  simp only [trySnap]
  repeat' split
  all_goals simp

@[simp] theorem startErase_frame (x : Nat) (b : Bool) (f : Nat) (s : State) :
    (startErase x b f s).now = s.now ∧
      (startErase x b f s).psc = s.psc ∧
      (startErase x b f s).spd = s.spd ∧
      (startErase x b f s).gau = s.gau ∧
      (startErase x b f s).ttu = s.ttu ∧
      (startErase x b f s).tlr = s.tlr ∧
      (startErase x b f s).dtu = s.dtu ∧
      (startErase x b f s).sdu = s.sdu ∧
      (startErase x b f s).host = s.host ∧
      (startErase x b f s).freeCount = s.freeCount ∧
      (startErase x b f s).pending = s.pending ∧
      (startErase x b f s).nvs.array = s.nvs.array ∧
      (startErase x b f s).nvs.active = s.nvs.active ∧
      (startErase x b f s).nvs.pulse = s.nvs.pulse ∧
      (startErase x b f s).nvs.locked = s.nvs.locked ∧
      (startErase x b f s).nvs.loadControl = s.nvs.loadControl ∧
      (startErase x b f s).lnk = s.lnk := by
  simp [startErase]

@[simp] theorem startNext_frame (s : State) :
    (startNext s).now = s.now ∧
      (startNext s).psc = s.psc ∧
      (startNext s).spd = s.spd ∧
      (startNext s).gau = s.gau ∧
      (startNext s).tlr = s.tlr ∧
      (startNext s).dtu = s.dtu ∧
      (startNext s).sdu = s.sdu ∧
      (startNext s).host = s.host ∧
      (startNext s).freeCount = s.freeCount ∧
      (startNext s).pending = s.pending ∧
      (startNext s).nvs.array = s.nvs.array ∧
      (startNext s).nvs.active = s.nvs.active ∧
      (startNext s).nvs.pulse = s.nvs.pulse ∧
      (startNext s).nvs.locked = s.nvs.locked ∧
      (startNext s).nvs.loadControl = s.nvs.loadControl ∧
      (startNext s).lnk.port = s.lnk.port ∧
      (startNext s).lnk.discard = s.lnk.discard ∧
      (startNext s).lnk.causeEcho = s.lnk.causeEcho ∧
      (startNext s).lnk.gaugeEcho = s.lnk.gaugeEcho ∧
      (startNext s).lnk.textEcho = s.lnk.textEcho := by
  simp only [startNext]
  repeat' split
  all_goals simp

@[simp] theorem nvsStart_frame (s : State) :
    (nvsStart s).now = s.now ∧
      (nvsStart s).psc = s.psc ∧
      (nvsStart s).spd = s.spd ∧
      (nvsStart s).gau = s.gau ∧
      (nvsStart s).tlr = s.tlr ∧
      (nvsStart s).dtu = s.dtu ∧
      (nvsStart s).sdu = s.sdu ∧
      (nvsStart s).host = s.host ∧
      (nvsStart s).freeCount = s.freeCount ∧
      (nvsStart s).pending = s.pending ∧
      (nvsStart s).nvs.array = s.nvs.array ∧
      (nvsStart s).nvs.active = s.nvs.active ∧
      (nvsStart s).nvs.pulse = s.nvs.pulse ∧
      (nvsStart s).nvs.locked = s.nvs.locked ∧
      (nvsStart s).nvs.loadControl = s.nvs.loadControl ∧
      (nvsStart s).lnk.port = s.lnk.port ∧
      (nvsStart s).lnk.discard = s.lnk.discard ∧
      (nvsStart s).lnk.causeEcho = s.lnk.causeEcho ∧
      (nvsStart s).lnk.gaugeEcho = s.lnk.gaugeEcho ∧
      (nvsStart s).lnk.textEcho = s.lnk.textEcho := by
  simp only [nvsStart]
  repeat' split
  all_goals simp

@[simp] theorem resumeErase_frame (e : EraseOp) (s : State) :
    (resumeErase e s).now = s.now ∧
      (resumeErase e s).psc = s.psc ∧
      (resumeErase e s).spd = s.spd ∧
      (resumeErase e s).gau = s.gau ∧
      (resumeErase e s).tlr = s.tlr ∧
      (resumeErase e s).dtu = s.dtu ∧
      (resumeErase e s).sdu = s.sdu ∧
      (resumeErase e s).host = s.host ∧
      (resumeErase e s).freeCount = s.freeCount ∧
      (resumeErase e s).pending = s.pending ∧
      (resumeErase e s).nvs.array = s.nvs.array ∧
      (resumeErase e s).nvs.active = s.nvs.active ∧
      (resumeErase e s).nvs.pulse = s.nvs.pulse ∧
      (resumeErase e s).nvs.locked = s.nvs.locked ∧
      (resumeErase e s).nvs.loadControl = s.nvs.loadControl ∧
      (resumeErase e s).lnk.port = s.lnk.port ∧
      (resumeErase e s).lnk.discard = s.lnk.discard ∧
      (resumeErase e s).lnk.causeEcho = s.lnk.causeEcho ∧
      (resumeErase e s).lnk.gaugeEcho = s.lnk.gaugeEcho ∧
      (resumeErase e s).lnk.textEcho = s.lnk.textEcho := by
  simp only [resumeErase]
  repeat' split
  all_goals simp

@[simp] theorem placeOdo_frame (s : State) :
    (placeOdo s).now = s.now ∧
      (placeOdo s).psc = s.psc ∧
      (placeOdo s).spd = s.spd ∧
      (placeOdo s).gau = s.gau ∧
      (placeOdo s).tlr = s.tlr ∧
      (placeOdo s).dtu = s.dtu ∧
      (placeOdo s).sdu = s.sdu ∧
      (placeOdo s).host = s.host ∧
      (placeOdo s).freeCount = s.freeCount ∧
      (placeOdo s).pending = s.pending ∧
      (placeOdo s).nvs.array = s.nvs.array ∧
      (placeOdo s).nvs.active = s.nvs.active ∧
      (placeOdo s).nvs.pulse = s.nvs.pulse ∧
      (placeOdo s).nvs.locked = s.nvs.locked ∧
      (placeOdo s).nvs.loadControl = s.nvs.loadControl ∧
      (placeOdo s).lnk.port = s.lnk.port ∧
      (placeOdo s).lnk.discard = s.lnk.discard ∧
      (placeOdo s).lnk.causeEcho = s.lnk.causeEcho ∧
      (placeOdo s).lnk.gaugeEcho = s.lnk.gaugeEcho ∧
      (placeOdo s).lnk.textEcho = s.lnk.textEcho := by
  unfold placeOdo arrival
  repeat' split
  all_goals simp

@[simp] theorem placeCal_frame (c : CalContent) (s : State) :
    (placeCal c s).now = s.now ∧
      (placeCal c s).psc = s.psc ∧
      (placeCal c s).spd = s.spd ∧
      (placeCal c s).gau = s.gau ∧
      (placeCal c s).tlr = s.tlr ∧
      (placeCal c s).dtu = s.dtu ∧
      (placeCal c s).sdu = s.sdu ∧
      (placeCal c s).host = s.host ∧
      (placeCal c s).freeCount = s.freeCount ∧
      (placeCal c s).pending = s.pending ∧
      (placeCal c s).nvs.array = s.nvs.array ∧
      (placeCal c s).nvs.active = s.nvs.active ∧
      (placeCal c s).nvs.pulse = s.nvs.pulse ∧
      (placeCal c s).nvs.locked = s.nvs.locked ∧
      (placeCal c s).nvs.loadControl = s.nvs.loadControl ∧
      (placeCal c s).lnk.port = s.lnk.port ∧
      (placeCal c s).lnk.discard = s.lnk.discard ∧
      (placeCal c s).lnk.causeEcho = s.lnk.causeEcho ∧
      (placeCal c s).lnk.gaugeEcho = s.lnk.gaugeEcho ∧
      (placeCal c s).lnk.textEcho = s.lnk.textEcho := by
  unfold placeCal arrival
  repeat' split
  all_goals simp

@[simp] theorem placeSnap_frame (s : State) :
    (placeSnap s).now = s.now ∧
      (placeSnap s).psc = s.psc ∧
      (placeSnap s).spd = s.spd ∧
      (placeSnap s).gau = s.gau ∧
      (placeSnap s).tlr = s.tlr ∧
      (placeSnap s).dtu = s.dtu ∧
      (placeSnap s).sdu = s.sdu ∧
      (placeSnap s).host = s.host ∧
      (placeSnap s).freeCount = s.freeCount ∧
      (placeSnap s).pending = s.pending ∧
      (placeSnap s).nvs.array = s.nvs.array ∧
      (placeSnap s).nvs.active = s.nvs.active ∧
      (placeSnap s).nvs.pulse = s.nvs.pulse ∧
      (placeSnap s).nvs.locked = s.nvs.locked ∧
      (placeSnap s).nvs.loadControl = s.nvs.loadControl ∧
      (placeSnap s).lnk.port = s.lnk.port ∧
      (placeSnap s).lnk.discard = s.lnk.discard ∧
      (placeSnap s).lnk.causeEcho = s.lnk.causeEcho ∧
      (placeSnap s).lnk.gaugeEcho = s.lnk.gaugeEcho ∧
      (placeSnap s).lnk.textEcho = s.lnk.textEcho := by
  simp only [placeSnap]
  repeat' split
  all_goals simp

@[simp] theorem placeSets_frame (s : State) :
    (placeSets s).now = s.now ∧
      (placeSets s).psc = s.psc ∧
      (placeSets s).spd = s.spd ∧
      (placeSets s).gau = s.gau ∧
      (placeSets s).tlr = s.tlr ∧
      (placeSets s).dtu = s.dtu ∧
      (placeSets s).sdu = s.sdu ∧
      (placeSets s).host = s.host ∧
      (placeSets s).freeCount = s.freeCount ∧
      (placeSets s).pending = s.pending ∧
      (placeSets s).nvs.array = s.nvs.array ∧
      (placeSets s).nvs.active = s.nvs.active ∧
      (placeSets s).nvs.pulse = s.nvs.pulse ∧
      (placeSets s).nvs.locked = s.nvs.locked ∧
      (placeSets s).nvs.loadControl = s.nvs.loadControl ∧
      (placeSets s).lnk.port = s.lnk.port ∧
      (placeSets s).lnk.discard = s.lnk.discard ∧
      (placeSets s).lnk.causeEcho = s.lnk.causeEcho ∧
      (placeSets s).lnk.gaugeEcho = s.lnk.gaugeEcho ∧
      (placeSets s).lnk.textEcho = s.lnk.textEcho := by
  simp [placeSets]

end Sys2Proof.Machine
end

