-- ==== Sys2Proof/Laws/TimeFrames.lean ====
section
/-! SUPPORT. What DTU's and TLR's shared operations leave alone. -/

namespace Sys2Proof.Machine

@[simp] theorem noteProfile_frame (s : State) :
    (noteProfile s).now = s.now ∧
      (noteProfile s).psc = s.psc ∧
      (noteProfile s).spd = s.spd ∧
      (noteProfile s).gau = s.gau ∧
      (noteProfile s).ttu = s.ttu ∧
      (noteProfile s).tlr = s.tlr ∧
      (noteProfile s).sdu = s.sdu ∧
      (noteProfile s).nvs = s.nvs ∧
      (noteProfile s).host = s.host ∧
      (noteProfile s).freeCount = s.freeCount ∧
      (noteProfile s).pending = s.pending ∧
      (noteProfile s).lnk = s.lnk := by
  simp [noteProfile]

@[simp] theorem deriveSlot_frame (i : Fin 2) (s : State) :
    (deriveSlot i s).now = s.now ∧
      (deriveSlot i s).psc = s.psc ∧
      (deriveSlot i s).spd = s.spd ∧
      (deriveSlot i s).gau = s.gau ∧
      (deriveSlot i s).ttu = s.ttu ∧
      (deriveSlot i s).tlr = s.tlr ∧
      (deriveSlot i s).sdu = s.sdu ∧
      (deriveSlot i s).nvs = s.nvs ∧
      (deriveSlot i s).host = s.host ∧
      (deriveSlot i s).freeCount = s.freeCount ∧
      (deriveSlot i s).pending = s.pending ∧
      (deriveSlot i s).lnk = s.lnk := by
  simp [deriveSlot]

@[simp] theorem postDriveLimit_frame (i : Fin 2) (e c l : Nat) (s : State) :
    (postDriveLimit i e c l s).now = s.now ∧
      (postDriveLimit i e c l s).psc = s.psc ∧
      (postDriveLimit i e c l s).spd = s.spd ∧
      (postDriveLimit i e c l s).gau = s.gau ∧
      (postDriveLimit i e c l s).ttu = s.ttu ∧
      (postDriveLimit i e c l s).tlr = s.tlr ∧
      (postDriveLimit i e c l s).dtu = s.dtu ∧
      (postDriveLimit i e c l s).sdu = s.sdu ∧
      (postDriveLimit i e c l s).nvs = s.nvs ∧
      (postDriveLimit i e c l s).host = s.host ∧
      (postDriveLimit i e c l s).freeCount = s.freeCount ∧
      (postDriveLimit i e c l s).pending = s.pending ∧
      (postDriveLimit i e c l s).lnk.port = s.lnk.port ∧
      (postDriveLimit i e c l s).lnk.discard = s.lnk.discard ∧
      (postDriveLimit i e c l s).lnk.causeEcho = s.lnk.causeEcho ∧
      (postDriveLimit i e c l s).lnk.gaugeEcho = s.lnk.gaugeEcho ∧
      (postDriveLimit i e c l s).lnk.textEcho = s.lnk.textEcho ∧
      (postDriveLimit i e c l s).lnk.orders = s.lnk.orders := by
  simp [postDriveLimit]

@[simp] theorem evaluateWarnings_frame (i : Fin 2) (s : State) :
    (evaluateWarnings i s).now = s.now ∧
      (evaluateWarnings i s).psc = s.psc ∧
      (evaluateWarnings i s).spd = s.spd ∧
      (evaluateWarnings i s).gau = s.gau ∧
      (evaluateWarnings i s).ttu = s.ttu ∧
      (evaluateWarnings i s).tlr = s.tlr ∧
      (evaluateWarnings i s).sdu = s.sdu ∧
      (evaluateWarnings i s).nvs = s.nvs ∧
      (evaluateWarnings i s).host = s.host ∧
      (evaluateWarnings i s).freeCount = s.freeCount ∧
      (evaluateWarnings i s).pending = s.pending ∧
      (evaluateWarnings i s).lnk.port = s.lnk.port ∧
      (evaluateWarnings i s).lnk.discard = s.lnk.discard ∧
      (evaluateWarnings i s).lnk.causeEcho = s.lnk.causeEcho ∧
      (evaluateWarnings i s).lnk.gaugeEcho = s.lnk.gaugeEcho ∧
      (evaluateWarnings i s).lnk.textEcho = s.lnk.textEcho ∧
      (evaluateWarnings i s).lnk.orders = s.lnk.orders := by
  simp only [evaluateWarnings]
  repeat' split
  all_goals simp

@[simp] theorem evalDriving_frame (s : State) :
    (evalDriving s).now = s.now ∧
      (evalDriving s).psc = s.psc ∧
      (evalDriving s).spd = s.spd ∧
      (evalDriving s).gau = s.gau ∧
      (evalDriving s).tlr = s.tlr ∧
      (evalDriving s).sdu = s.sdu ∧
      (evalDriving s).nvs = s.nvs ∧
      (evalDriving s).host = s.host ∧
      (evalDriving s).freeCount = s.freeCount ∧
      (evalDriving s).pending = s.pending ∧
      (evalDriving s).lnk.port = s.lnk.port ∧
      (evalDriving s).lnk.discard = s.lnk.discard ∧
      (evalDriving s).lnk.causeEcho = s.lnk.causeEcho ∧
      (evalDriving s).lnk.gaugeEcho = s.lnk.gaugeEcho ∧
      (evalDriving s).lnk.textEcho = s.lnk.textEcho ∧
      (evalDriving s).lnk.orders = s.lnk.orders := by
  simp [evalDriving]

@[simp] theorem evalImplied_frame (s : State) :
    (evalImplied s).now = s.now ∧
      (evalImplied s).psc = s.psc ∧
      (evalImplied s).spd = s.spd ∧
      (evalImplied s).gau = s.gau ∧
      (evalImplied s).tlr = s.tlr ∧
      (evalImplied s).sdu = s.sdu ∧
      (evalImplied s).nvs = s.nvs ∧
      (evalImplied s).host = s.host ∧
      (evalImplied s).freeCount = s.freeCount ∧
      (evalImplied s).pending = s.pending ∧
      (evalImplied s).lnk.port = s.lnk.port ∧
      (evalImplied s).lnk.discard = s.lnk.discard ∧
      (evalImplied s).lnk.causeEcho = s.lnk.causeEcho ∧
      (evalImplied s).lnk.gaugeEcho = s.lnk.gaugeEcho ∧
      (evalImplied s).lnk.textEcho = s.lnk.textEcho ∧
      (evalImplied s).lnk.orders = s.lnk.orders := by
  simp [evalImplied]

@[simp] theorem changeActivity_frame (i : Fin 2) (x : Activity × Source) (y : Nat × Nat) (s : State) :
    (changeActivity i x y s).now = s.now ∧
      (changeActivity i x y s).psc = s.psc ∧
      (changeActivity i x y s).spd = s.spd ∧
      (changeActivity i x y s).gau = s.gau ∧
      (changeActivity i x y s).ttu = s.ttu ∧
      (changeActivity i x y s).tlr = s.tlr ∧
      (changeActivity i x y s).sdu = s.sdu ∧
      (changeActivity i x y s).nvs = s.nvs ∧
      (changeActivity i x y s).host = s.host ∧
      (changeActivity i x y s).freeCount = s.freeCount ∧
      (changeActivity i x y s).pending = s.pending ∧
      (changeActivity i x y s).lnk.port = s.lnk.port ∧
      (changeActivity i x y s).lnk.discard = s.lnk.discard ∧
      (changeActivity i x y s).lnk.causeEcho = s.lnk.causeEcho ∧
      (changeActivity i x y s).lnk.gaugeEcho = s.lnk.gaugeEcho ∧
      (changeActivity i x y s).lnk.textEcho = s.lnk.textEcho ∧
      (changeActivity i x y s).lnk.orders = s.lnk.orders := by
  simp only [changeActivity]
  repeat' split
  all_goals simp

@[simp] theorem postConflict_frame (r : Nat) (a b : Activity) (s : State) :
    (postConflict r a b s).now = s.now ∧
      (postConflict r a b s).psc = s.psc ∧
      (postConflict r a b s).spd = s.spd ∧
      (postConflict r a b s).gau = s.gau ∧
      (postConflict r a b s).ttu = s.ttu ∧
      (postConflict r a b s).tlr = s.tlr ∧
      (postConflict r a b s).dtu = s.dtu ∧
      (postConflict r a b s).sdu = s.sdu ∧
      (postConflict r a b s).nvs = s.nvs ∧
      (postConflict r a b s).host = s.host ∧
      (postConflict r a b s).freeCount = s.freeCount ∧
      (postConflict r a b s).pending = s.pending ∧
      (postConflict r a b s).lnk.port = s.lnk.port ∧
      (postConflict r a b s).lnk.discard = s.lnk.discard ∧
      (postConflict r a b s).lnk.causeEcho = s.lnk.causeEcho ∧
      (postConflict r a b s).lnk.gaugeEcho = s.lnk.gaugeEcho ∧
      (postConflict r a b s).lnk.textEcho = s.lnk.textEcho ∧
      (postConflict r a b s).lnk.orders = s.lnk.orders := by
  simp [postConflict]

@[simp] theorem flagConflict_frame (i : Fin 2) (s : State) :
    (flagConflict i s).now = s.now ∧
      (flagConflict i s).psc = s.psc ∧
      (flagConflict i s).spd = s.spd ∧
      (flagConflict i s).gau = s.gau ∧
      (flagConflict i s).ttu = s.ttu ∧
      (flagConflict i s).tlr = s.tlr ∧
      (flagConflict i s).sdu = s.sdu ∧
      (flagConflict i s).nvs = s.nvs ∧
      (flagConflict i s).host = s.host ∧
      (flagConflict i s).freeCount = s.freeCount ∧
      (flagConflict i s).pending = s.pending ∧
      (flagConflict i s).lnk = s.lnk := by
  simp [flagConflict]

@[simp] theorem resolution_frame (x : Option (Fin 2 × Nat)) (s : State) :
    (resolution x s).now = s.now ∧
      (resolution x s).psc = s.psc ∧
      (resolution x s).spd = s.spd ∧
      (resolution x s).gau = s.gau ∧
      (resolution x s).tlr = s.tlr ∧
      (resolution x s).sdu = s.sdu ∧
      (resolution x s).nvs = s.nvs ∧
      (resolution x s).host = s.host ∧
      (resolution x s).freeCount = s.freeCount ∧
      (resolution x s).pending = s.pending ∧
      (resolution x s).lnk.port = s.lnk.port ∧
      (resolution x s).lnk.discard = s.lnk.discard ∧
      (resolution x s).lnk.causeEcho = s.lnk.causeEcho ∧
      (resolution x s).lnk.gaugeEcho = s.lnk.gaugeEcho ∧
      (resolution x s).lnk.textEcho = s.lnk.textEcho ∧
      (resolution x s).lnk.orders = s.lnk.orders := by
  simp only [resolution]
  repeat' split
  all_goals simp

@[simp] theorem movingSet_frame (s : State) :
    (movingSet s).now = s.now ∧
      (movingSet s).psc = s.psc ∧
      (movingSet s).spd = s.spd ∧
      (movingSet s).gau = s.gau ∧
      (movingSet s).tlr = s.tlr ∧
      (movingSet s).sdu = s.sdu ∧
      (movingSet s).nvs = s.nvs ∧
      (movingSet s).host = s.host ∧
      (movingSet s).freeCount = s.freeCount ∧
      (movingSet s).pending = s.pending ∧
      (movingSet s).lnk.port = s.lnk.port ∧
      (movingSet s).lnk.discard = s.lnk.discard ∧
      (movingSet s).lnk.causeEcho = s.lnk.causeEcho ∧
      (movingSet s).lnk.gaugeEcho = s.lnk.gaugeEcho ∧
      (movingSet s).lnk.textEcho = s.lnk.textEcho ∧
      (movingSet s).lnk.orders = s.lnk.orders := by
  simp [movingSet]

@[simp] theorem movingClear_frame (s : State) :
    (movingClear s).now = s.now ∧
      (movingClear s).psc = s.psc ∧
      (movingClear s).spd = s.spd ∧
      (movingClear s).gau = s.gau ∧
      (movingClear s).tlr = s.tlr ∧
      (movingClear s).sdu = s.sdu ∧
      (movingClear s).nvs = s.nvs ∧
      (movingClear s).host = s.host ∧
      (movingClear s).freeCount = s.freeCount ∧
      (movingClear s).pending = s.pending ∧
      (movingClear s).lnk.port = s.lnk.port ∧
      (movingClear s).lnk.discard = s.lnk.discard ∧
      (movingClear s).lnk.causeEcho = s.lnk.causeEcho ∧
      (movingClear s).lnk.gaugeEcho = s.lnk.gaugeEcho ∧
      (movingClear s).lnk.textEcho = s.lnk.textEcho ∧
      (movingClear s).lnk.orders = s.lnk.orders := by
  simp only [movingClear]
  repeat' split
  all_goals simp

@[simp] theorem lineToDtu_frame (l : LineState) (s : State) :
    (lineToDtu l s).now = s.now ∧
      (lineToDtu l s).psc = s.psc ∧
      (lineToDtu l s).spd = s.spd ∧
      (lineToDtu l s).gau = s.gau ∧
      (lineToDtu l s).tlr = s.tlr ∧
      (lineToDtu l s).sdu = s.sdu ∧
      (lineToDtu l s).nvs = s.nvs ∧
      (lineToDtu l s).host = s.host ∧
      (lineToDtu l s).freeCount = s.freeCount ∧
      (lineToDtu l s).pending = s.pending ∧
      (lineToDtu l s).lnk.port = s.lnk.port ∧
      (lineToDtu l s).lnk.discard = s.lnk.discard ∧
      (lineToDtu l s).lnk.causeEcho = s.lnk.causeEcho ∧
      (lineToDtu l s).lnk.gaugeEcho = s.lnk.gaugeEcho ∧
      (lineToDtu l s).lnk.textEcho = s.lnk.textEcho ∧
      (lineToDtu l s).lnk.orders = s.lnk.orders := by
  simp only [lineToDtu]
  repeat' split
  all_goals simp

@[simp] theorem postCard_frame (i : Fin 2) (e : Nat) (s : State) :
    (postCard i e s).now = s.now ∧
      (postCard i e s).psc = s.psc ∧
      (postCard i e s).spd = s.spd ∧
      (postCard i e s).gau = s.gau ∧
      (postCard i e s).ttu = s.ttu ∧
      (postCard i e s).tlr = s.tlr ∧
      (postCard i e s).dtu = s.dtu ∧
      (postCard i e s).sdu = s.sdu ∧
      (postCard i e s).nvs = s.nvs ∧
      (postCard i e s).host = s.host ∧
      (postCard i e s).freeCount = s.freeCount ∧
      (postCard i e s).pending = s.pending ∧
      (postCard i e s).lnk.port = s.lnk.port ∧
      (postCard i e s).lnk.discard = s.lnk.discard ∧
      (postCard i e s).lnk.causeEcho = s.lnk.causeEcho ∧
      (postCard i e s).lnk.gaugeEcho = s.lnk.gaugeEcho ∧
      (postCard i e s).lnk.textEcho = s.lnk.textEcho ∧
      (postCard i e s).lnk.orders = s.lnk.orders := by
  simp [postCard]

@[simp] theorem cardInsert_frame (i : Fin 2) (f : CardFields) (s : State) :
    (cardInsert i f s).now = s.now ∧
      (cardInsert i f s).psc = s.psc ∧
      (cardInsert i f s).spd = s.spd ∧
      (cardInsert i f s).gau = s.gau ∧
      (cardInsert i f s).tlr = s.tlr ∧
      (cardInsert i f s).sdu = s.sdu ∧
      (cardInsert i f s).nvs = s.nvs ∧
      (cardInsert i f s).host = s.host ∧
      (cardInsert i f s).freeCount = s.freeCount ∧
      (cardInsert i f s).pending = s.pending ∧
      (cardInsert i f s).lnk.port = s.lnk.port ∧
      (cardInsert i f s).lnk.discard = s.lnk.discard ∧
      (cardInsert i f s).lnk.causeEcho = s.lnk.causeEcho ∧
      (cardInsert i f s).lnk.gaugeEcho = s.lnk.gaugeEcho ∧
      (cardInsert i f s).lnk.textEcho = s.lnk.textEcho ∧
      (cardInsert i f s).lnk.orders = s.lnk.orders := by
  simp [cardInsert]

@[simp] theorem cardWithdraw_frame (i : Fin 2) (s : State) :
    (cardWithdraw i s).now = s.now ∧
      (cardWithdraw i s).psc = s.psc ∧
      (cardWithdraw i s).spd = s.spd ∧
      (cardWithdraw i s).gau = s.gau ∧
      (cardWithdraw i s).tlr = s.tlr ∧
      (cardWithdraw i s).sdu = s.sdu ∧
      (cardWithdraw i s).nvs = s.nvs ∧
      (cardWithdraw i s).host = s.host ∧
      (cardWithdraw i s).freeCount = s.freeCount ∧
      (cardWithdraw i s).pending = s.pending ∧
      (cardWithdraw i s).lnk.port = s.lnk.port ∧
      (cardWithdraw i s).lnk.discard = s.lnk.discard ∧
      (cardWithdraw i s).lnk.causeEcho = s.lnk.causeEcho ∧
      (cardWithdraw i s).lnk.gaugeEcho = s.lnk.gaugeEcho ∧
      (cardWithdraw i s).lnk.textEcho = s.lnk.textEcho ∧
      (cardWithdraw i s).lnk.orders = s.lnk.orders := by
  simp only [cardWithdraw]
  repeat' split
  all_goals simp

@[simp] theorem presenceFlag_frame (i : Fin 2) (b : Bool) (s : State) :
    (presenceFlag i b s).now = s.now ∧
      (presenceFlag i b s).psc = s.psc ∧
      (presenceFlag i b s).spd = s.spd ∧
      (presenceFlag i b s).gau = s.gau ∧
      (presenceFlag i b s).ttu = s.ttu ∧
      (presenceFlag i b s).tlr = s.tlr ∧
      (presenceFlag i b s).sdu = s.sdu ∧
      (presenceFlag i b s).nvs = s.nvs ∧
      (presenceFlag i b s).host = s.host ∧
      (presenceFlag i b s).freeCount = s.freeCount ∧
      (presenceFlag i b s).pending = s.pending ∧
      (presenceFlag i b s).lnk.port = s.lnk.port ∧
      (presenceFlag i b s).lnk.discard = s.lnk.discard ∧
      (presenceFlag i b s).lnk.causeEcho = s.lnk.causeEcho ∧
      (presenceFlag i b s).lnk.gaugeEcho = s.lnk.gaugeEcho ∧
      (presenceFlag i b s).lnk.textEcho = s.lnk.textEcho ∧
      (presenceFlag i b s).lnk.orders = s.lnk.orders := by
  simp only [presenceFlag]
  repeat' split
  all_goals simp

@[simp] theorem presenceReport_frame (i : Fin 2) (a : Activity) (s : State) :
    (presenceReport i a s).now = s.now ∧
      (presenceReport i a s).psc = s.psc ∧
      (presenceReport i a s).spd = s.spd ∧
      (presenceReport i a s).gau = s.gau ∧
      (presenceReport i a s).ttu = s.ttu ∧
      (presenceReport i a s).tlr = s.tlr ∧
      (presenceReport i a s).sdu = s.sdu ∧
      (presenceReport i a s).nvs = s.nvs ∧
      (presenceReport i a s).host = s.host ∧
      (presenceReport i a s).freeCount = s.freeCount ∧
      (presenceReport i a s).pending = s.pending ∧
      (presenceReport i a s).lnk = s.lnk := by
  simp only [presenceReport]
  repeat' split
  all_goals simp

@[simp] theorem presenceToDtu_frame (a b : Activity) (f : Byte) (s : State) :
    (presenceToDtu a b f s).now = s.now ∧
      (presenceToDtu a b f s).psc = s.psc ∧
      (presenceToDtu a b f s).spd = s.spd ∧
      (presenceToDtu a b f s).gau = s.gau ∧
      (presenceToDtu a b f s).tlr = s.tlr ∧
      (presenceToDtu a b f s).sdu = s.sdu ∧
      (presenceToDtu a b f s).nvs = s.nvs ∧
      (presenceToDtu a b f s).host = s.host ∧
      (presenceToDtu a b f s).freeCount = s.freeCount ∧
      (presenceToDtu a b f s).pending = s.pending ∧
      (presenceToDtu a b f s).lnk.port = s.lnk.port ∧
      (presenceToDtu a b f s).lnk.discard = s.lnk.discard ∧
      (presenceToDtu a b f s).lnk.causeEcho = s.lnk.causeEcho ∧
      (presenceToDtu a b f s).lnk.gaugeEcho = s.lnk.gaugeEcho ∧
      (presenceToDtu a b f s).lnk.textEcho = s.lnk.textEcho ∧
      (presenceToDtu a b f s).lnk.orders = s.lnk.orders := by
  simp [presenceToDtu]

@[simp] theorem activityToDtu_frame (i : Fin 2) (a : Activity) (m : Nat) (s : State) :
    (activityToDtu i a m s).now = s.now ∧
      (activityToDtu i a m s).psc = s.psc ∧
      (activityToDtu i a m s).spd = s.spd ∧
      (activityToDtu i a m s).gau = s.gau ∧
      (activityToDtu i a m s).tlr = s.tlr ∧
      (activityToDtu i a m s).sdu = s.sdu ∧
      (activityToDtu i a m s).nvs = s.nvs ∧
      (activityToDtu i a m s).host = s.host ∧
      (activityToDtu i a m s).freeCount = s.freeCount ∧
      (activityToDtu i a m s).pending = s.pending ∧
      (activityToDtu i a m s).lnk.port = s.lnk.port ∧
      (activityToDtu i a m s).lnk.discard = s.lnk.discard ∧
      (activityToDtu i a m s).lnk.causeEcho = s.lnk.causeEcho ∧
      (activityToDtu i a m s).lnk.gaugeEcho = s.lnk.gaugeEcho ∧
      (activityToDtu i a m s).lnk.textEcho = s.lnk.textEcho ∧
      (activityToDtu i a m s).lnk.orders = s.lnk.orders := by
  simp [activityToDtu]

@[simp] theorem flagGap_frame (i : Fin 2) (s : State) :
    (flagGap i s).now = s.now ∧
      (flagGap i s).psc = s.psc ∧
      (flagGap i s).spd = s.spd ∧
      (flagGap i s).gau = s.gau ∧
      (flagGap i s).ttu = s.ttu ∧
      (flagGap i s).tlr = s.tlr ∧
      (flagGap i s).sdu = s.sdu ∧
      (flagGap i s).nvs = s.nvs ∧
      (flagGap i s).host = s.host ∧
      (flagGap i s).freeCount = s.freeCount ∧
      (flagGap i s).pending = s.pending ∧
      (flagGap i s).lnk = s.lnk := by
  simp [flagGap]

@[simp] theorem setClock_frame (a b c e : Nat) (s : State) :
    (setClock a b c e s).now = s.now ∧
      (setClock a b c e s).psc = s.psc ∧
      (setClock a b c e s).spd = s.spd ∧
      (setClock a b c e s).gau = s.gau ∧
      (setClock a b c e s).ttu = s.ttu ∧
      (setClock a b c e s).tlr = s.tlr ∧
      (setClock a b c e s).sdu = s.sdu ∧
      (setClock a b c e s).nvs = s.nvs ∧
      (setClock a b c e s).host = s.host ∧
      (setClock a b c e s).freeCount = s.freeCount ∧
      (setClock a b c e s).pending = s.pending ∧
      (setClock a b c e s).lnk.port = s.lnk.port ∧
      (setClock a b c e s).lnk.discard = s.lnk.discard ∧
      (setClock a b c e s).lnk.causeEcho = s.lnk.causeEcho ∧
      (setClock a b c e s).lnk.gaugeEcho = s.lnk.gaugeEcho ∧
      (setClock a b c e s).lnk.textEcho = s.lnk.textEcho ∧
      (setClock a b c e s).lnk.orders = s.lnk.orders := by
  simp only [setClock]
  repeat' split
  all_goals simp

@[simp] theorem creditSlot_frame (i : Fin 2) (s : State) :
    (creditSlot i s).now = s.now ∧
      (creditSlot i s).psc = s.psc ∧
      (creditSlot i s).spd = s.spd ∧
      (creditSlot i s).gau = s.gau ∧
      (creditSlot i s).ttu = s.ttu ∧
      (creditSlot i s).tlr = s.tlr ∧
      (creditSlot i s).sdu = s.sdu ∧
      (creditSlot i s).nvs = s.nvs ∧
      (creditSlot i s).host = s.host ∧
      (creditSlot i s).freeCount = s.freeCount ∧
      (creditSlot i s).pending = s.pending ∧
      (creditSlot i s).lnk = s.lnk := by
  simp only [creditSlot]
  repeat' split
  all_goals simp

@[simp] theorem afterCredit_frame (s : State) :
    (afterCredit s).now = s.now ∧
      (afterCredit s).psc = s.psc ∧
      (afterCredit s).spd = s.spd ∧
      (afterCredit s).gau = s.gau ∧
      (afterCredit s).tlr = s.tlr ∧
      (afterCredit s).sdu = s.sdu ∧
      (afterCredit s).nvs = s.nvs ∧
      (afterCredit s).host = s.host ∧
      (afterCredit s).freeCount = s.freeCount ∧
      (afterCredit s).pending = s.pending ∧
      (afterCredit s).lnk.port = s.lnk.port ∧
      (afterCredit s).lnk.discard = s.lnk.discard ∧
      (afterCredit s).lnk.causeEcho = s.lnk.causeEcho ∧
      (afterCredit s).lnk.gaugeEcho = s.lnk.gaugeEcho ∧
      (afterCredit s).lnk.textEcho = s.lnk.textEcho ∧
      (afterCredit s).lnk.orders = s.lnk.orders := by
  simp only [afterCredit]
  repeat' split
  all_goals simp

@[simp] theorem minuteEvent_frame (a b : Nat) (s : State) :
    (minuteEvent a b s).now = s.now ∧
      (minuteEvent a b s).psc = s.psc ∧
      (minuteEvent a b s).spd = s.spd ∧
      (minuteEvent a b s).gau = s.gau ∧
      (minuteEvent a b s).tlr = s.tlr ∧
      (minuteEvent a b s).sdu = s.sdu ∧
      (minuteEvent a b s).nvs = s.nvs ∧
      (minuteEvent a b s).host = s.host ∧
      (minuteEvent a b s).freeCount = s.freeCount ∧
      (minuteEvent a b s).pending = s.pending ∧
      (minuteEvent a b s).lnk.port = s.lnk.port ∧
      (minuteEvent a b s).lnk.discard = s.lnk.discard ∧
      (minuteEvent a b s).lnk.causeEcho = s.lnk.causeEcho ∧
      (minuteEvent a b s).lnk.gaugeEcho = s.lnk.gaugeEcho ∧
      (minuteEvent a b s).lnk.textEcho = s.lnk.textEcho ∧
      (minuteEvent a b s).lnk.orders = s.lnk.orders := by
  simp only [minuteEvent]
  repeat' split
  all_goals simp

@[simp] theorem secondTick_frame (s : State) :
    (secondTick s).now = s.now ∧
      (secondTick s).psc = s.psc ∧
      (secondTick s).spd = s.spd ∧
      (secondTick s).gau = s.gau ∧
      (secondTick s).tlr = s.tlr ∧
      (secondTick s).sdu = s.sdu ∧
      (secondTick s).nvs = s.nvs ∧
      (secondTick s).host = s.host ∧
      (secondTick s).freeCount = s.freeCount ∧
      (secondTick s).pending = s.pending ∧
      (secondTick s).lnk.port = s.lnk.port ∧
      (secondTick s).lnk.discard = s.lnk.discard ∧
      (secondTick s).lnk.causeEcho = s.lnk.causeEcho ∧
      (secondTick s).lnk.gaugeEcho = s.lnk.gaugeEcho ∧
      (secondTick s).lnk.textEcho = s.lnk.textEcho ∧
      (secondTick s).lnk.orders = s.lnk.orders := by
  simp only [secondTick]
  repeat' split
  all_goals simp

@[simp] theorem startSnapTimer_frame (s : State) :
    (startSnapTimer s).now = s.now ∧
      (startSnapTimer s).psc = s.psc ∧
      (startSnapTimer s).spd = s.spd ∧
      (startSnapTimer s).gau = s.gau ∧
      (startSnapTimer s).ttu = s.ttu ∧
      (startSnapTimer s).tlr = s.tlr ∧
      (startSnapTimer s).sdu = s.sdu ∧
      (startSnapTimer s).nvs = s.nvs ∧
      (startSnapTimer s).host = s.host ∧
      (startSnapTimer s).freeCount = s.freeCount ∧
      (startSnapTimer s).pending = s.pending ∧
      (startSnapTimer s).lnk = s.lnk := by
  simp [startSnapTimer]

@[simp] theorem dtuStandbyEntry_frame (s : State) :
    (dtuStandbyEntry s).now = s.now ∧
      (dtuStandbyEntry s).psc = s.psc ∧
      (dtuStandbyEntry s).spd = s.spd ∧
      (dtuStandbyEntry s).gau = s.gau ∧
      (dtuStandbyEntry s).tlr = s.tlr ∧
      (dtuStandbyEntry s).sdu = s.sdu ∧
      (dtuStandbyEntry s).host = s.host ∧
      (dtuStandbyEntry s).freeCount = s.freeCount ∧
      (dtuStandbyEntry s).pending = s.pending ∧
      (dtuStandbyEntry s).nvs.array = s.nvs.array ∧
      (dtuStandbyEntry s).nvs.active = s.nvs.active ∧
      (dtuStandbyEntry s).nvs.pulse = s.nvs.pulse ∧
      (dtuStandbyEntry s).nvs.locked = s.nvs.locked ∧
      (dtuStandbyEntry s).nvs.loadControl = s.nvs.loadControl ∧
      (dtuStandbyEntry s).lnk.port = s.lnk.port ∧
      (dtuStandbyEntry s).lnk.discard = s.lnk.discard ∧
      (dtuStandbyEntry s).lnk.causeEcho = s.lnk.causeEcho ∧
      (dtuStandbyEntry s).lnk.gaugeEcho = s.lnk.gaugeEcho ∧
      (dtuStandbyEntry s).lnk.textEcho = s.lnk.textEcho := by
  simp [dtuStandbyEntry]

@[simp] theorem dtuRunEntry_frame (s : State) :
    (dtuRunEntry s).now = s.now ∧
      (dtuRunEntry s).psc = s.psc ∧
      (dtuRunEntry s).spd = s.spd ∧
      (dtuRunEntry s).gau = s.gau ∧
      (dtuRunEntry s).tlr = s.tlr ∧
      (dtuRunEntry s).sdu = s.sdu ∧
      (dtuRunEntry s).nvs = s.nvs ∧
      (dtuRunEntry s).host = s.host ∧
      (dtuRunEntry s).freeCount = s.freeCount ∧
      (dtuRunEntry s).pending = s.pending ∧
      (dtuRunEntry s).lnk.port = s.lnk.port ∧
      (dtuRunEntry s).lnk.discard = s.lnk.discard ∧
      (dtuRunEntry s).lnk.causeEcho = s.lnk.causeEcho ∧
      (dtuRunEntry s).lnk.gaugeEcho = s.lnk.gaugeEcho ∧
      (dtuRunEntry s).lnk.textEcho = s.lnk.textEcho ∧
      (dtuRunEntry s).lnk.orders = s.lnk.orders := by
  simp [dtuRunEntry]

@[simp] theorem evalLineLost_frame (s : State) :
    (evalLineLost s).now = s.now ∧
      (evalLineLost s).psc = s.psc ∧
      (evalLineLost s).spd = s.spd ∧
      (evalLineLost s).gau = s.gau ∧
      (evalLineLost s).dtu = s.dtu ∧
      (evalLineLost s).sdu = s.sdu ∧
      (evalLineLost s).nvs = s.nvs ∧
      (evalLineLost s).host = s.host ∧
      (evalLineLost s).freeCount = s.freeCount ∧
      (evalLineLost s).pending = s.pending ∧
      (evalLineLost s).lnk.port = s.lnk.port ∧
      (evalLineLost s).lnk.discard = s.lnk.discard ∧
      (evalLineLost s).lnk.causeEcho = s.lnk.causeEcho ∧
      (evalLineLost s).lnk.gaugeEcho = s.lnk.gaugeEcho ∧
      (evalLineLost s).lnk.textEcho = s.lnk.textEcho ∧
      (evalLineLost s).lnk.orders = s.lnk.orders := by
  simp [evalLineLost]

@[simp] theorem lineChange_frame (l : LineState) (w : LineReason) (s : State) :
    (lineChange l w s).now = s.now ∧
      (lineChange l w s).psc = s.psc ∧
      (lineChange l w s).spd = s.spd ∧
      (lineChange l w s).gau = s.gau ∧
      (lineChange l w s).sdu = s.sdu ∧
      (lineChange l w s).nvs = s.nvs ∧
      (lineChange l w s).host = s.host ∧
      (lineChange l w s).freeCount = s.freeCount ∧
      (lineChange l w s).pending = s.pending ∧
      (lineChange l w s).lnk.port = s.lnk.port ∧
      (lineChange l w s).lnk.discard = s.lnk.discard ∧
      (lineChange l w s).lnk.causeEcho = s.lnk.causeEcho ∧
      (lineChange l w s).lnk.gaugeEcho = s.lnk.gaugeEcho ∧
      (lineChange l w s).lnk.textEcho = s.lnk.textEcho ∧
      (lineChange l w s).lnk.orders = s.lnk.orders := by
  simp [lineChange]

@[simp] theorem startLineTimer_frame (s : State) :
    (startLineTimer s).now = s.now ∧
      (startLineTimer s).psc = s.psc ∧
      (startLineTimer s).spd = s.spd ∧
      (startLineTimer s).gau = s.gau ∧
      (startLineTimer s).ttu = s.ttu ∧
      (startLineTimer s).dtu = s.dtu ∧
      (startLineTimer s).sdu = s.sdu ∧
      (startLineTimer s).nvs = s.nvs ∧
      (startLineTimer s).host = s.host ∧
      (startLineTimer s).freeCount = s.freeCount ∧
      (startLineTimer s).pending = s.pending ∧
      (startLineTimer s).lnk = s.lnk := by
  simp [startLineTimer]

@[simp] theorem expireLineTimer_frame (s : State) :
    (expireLineTimer s).now = s.now ∧
      (expireLineTimer s).psc = s.psc ∧
      (expireLineTimer s).spd = s.spd ∧
      (expireLineTimer s).gau = s.gau ∧
      (expireLineTimer s).sdu = s.sdu ∧
      (expireLineTimer s).nvs = s.nvs ∧
      (expireLineTimer s).host = s.host ∧
      (expireLineTimer s).freeCount = s.freeCount ∧
      (expireLineTimer s).pending = s.pending ∧
      (expireLineTimer s).lnk.port = s.lnk.port ∧
      (expireLineTimer s).lnk.discard = s.lnk.discard ∧
      (expireLineTimer s).lnk.causeEcho = s.lnk.causeEcho ∧
      (expireLineTimer s).lnk.gaugeEcho = s.lnk.gaugeEcho ∧
      (expireLineTimer s).lnk.textEcho = s.lnk.textEcho ∧
      (expireLineTimer s).lnk.orders = s.lnk.orders := by
  simp [expireLineTimer]

@[simp] theorem handFrame_frame (b : Byte) (p : List Byte) (s : State) :
    (handFrame b p s).now = s.now ∧
      (handFrame b p s).psc = s.psc ∧
      (handFrame b p s).spd = s.spd ∧
      (handFrame b p s).gau = s.gau ∧
      (handFrame b p s).tlr = s.tlr ∧
      (handFrame b p s).sdu = s.sdu ∧
      (handFrame b p s).nvs = s.nvs ∧
      (handFrame b p s).host = s.host ∧
      (handFrame b p s).freeCount = s.freeCount ∧
      (handFrame b p s).pending = s.pending ∧
      (handFrame b p s).lnk.port = s.lnk.port ∧
      (handFrame b p s).lnk.discard = s.lnk.discard ∧
      (handFrame b p s).lnk.causeEcho = s.lnk.causeEcho ∧
      (handFrame b p s).lnk.gaugeEcho = s.lnk.gaugeEcho ∧
      (handFrame b p s).lnk.textEcho = s.lnk.textEcho ∧
      (handFrame b p s).lnk.orders = s.lnk.orders := by
  simp only [handFrame]
  repeat' split
  all_goals simp

@[simp] theorem validFrame_frame (b : Byte) (p : List Byte) (s : State) :
    (validFrame b p s).now = s.now ∧
      (validFrame b p s).psc = s.psc ∧
      (validFrame b p s).spd = s.spd ∧
      (validFrame b p s).gau = s.gau ∧
      (validFrame b p s).sdu = s.sdu ∧
      (validFrame b p s).nvs = s.nvs ∧
      (validFrame b p s).host = s.host ∧
      (validFrame b p s).freeCount = s.freeCount ∧
      (validFrame b p s).pending = s.pending ∧
      (validFrame b p s).lnk.port = s.lnk.port ∧
      (validFrame b p s).lnk.discard = s.lnk.discard ∧
      (validFrame b p s).lnk.causeEcho = s.lnk.causeEcho ∧
      (validFrame b p s).lnk.gaugeEcho = s.lnk.gaugeEcho ∧
      (validFrame b p s).lnk.textEcho = s.lnk.textEcho ∧
      (validFrame b p s).lnk.orders = s.lnk.orders := by
  simp only [validFrame]
  repeat' split
  all_goals simp

@[simp] theorem toHunt_frame (s : State) :
    (toHunt s).now = s.now ∧
      (toHunt s).psc = s.psc ∧
      (toHunt s).spd = s.spd ∧
      (toHunt s).gau = s.gau ∧
      (toHunt s).ttu = s.ttu ∧
      (toHunt s).dtu = s.dtu ∧
      (toHunt s).sdu = s.sdu ∧
      (toHunt s).nvs = s.nvs ∧
      (toHunt s).host = s.host ∧
      (toHunt s).freeCount = s.freeCount ∧
      (toHunt s).pending = s.pending ∧
      (toHunt s).lnk = s.lnk := by
  simp [toHunt]

@[simp] theorem judgeFrame_frame (a b : Byte) (m : Nat) (p : List Byte) (s : State) :
    (judgeFrame a b m p s).now = s.now ∧
      (judgeFrame a b m p s).psc = s.psc ∧
      (judgeFrame a b m p s).spd = s.spd ∧
      (judgeFrame a b m p s).gau = s.gau ∧
      (judgeFrame a b m p s).sdu = s.sdu ∧
      (judgeFrame a b m p s).nvs = s.nvs ∧
      (judgeFrame a b m p s).host = s.host ∧
      (judgeFrame a b m p s).freeCount = s.freeCount ∧
      (judgeFrame a b m p s).pending = s.pending ∧
      (judgeFrame a b m p s).lnk.port = s.lnk.port ∧
      (judgeFrame a b m p s).lnk.discard = s.lnk.discard ∧
      (judgeFrame a b m p s).lnk.causeEcho = s.lnk.causeEcho ∧
      (judgeFrame a b m p s).lnk.gaugeEcho = s.lnk.gaugeEcho ∧
      (judgeFrame a b m p s).lnk.textEcho = s.lnk.textEcho ∧
      (judgeFrame a b m p s).lnk.orders = s.lnk.orders := by
  simp only [judgeFrame]
  repeat' split
  all_goals simp

@[simp] theorem frameEnd_frame (b : Byte) (p : List Byte) (s : State) :
    (frameEnd b p s).now = s.now ∧
      (frameEnd b p s).psc = s.psc ∧
      (frameEnd b p s).spd = s.spd ∧
      (frameEnd b p s).gau = s.gau ∧
      (frameEnd b p s).sdu = s.sdu ∧
      (frameEnd b p s).nvs = s.nvs ∧
      (frameEnd b p s).host = s.host ∧
      (frameEnd b p s).freeCount = s.freeCount ∧
      (frameEnd b p s).pending = s.pending ∧
      (frameEnd b p s).lnk.port = s.lnk.port ∧
      (frameEnd b p s).lnk.discard = s.lnk.discard ∧
      (frameEnd b p s).lnk.causeEcho = s.lnk.causeEcho ∧
      (frameEnd b p s).lnk.gaugeEcho = s.lnk.gaugeEcho ∧
      (frameEnd b p s).lnk.textEcho = s.lnk.textEcho ∧
      (frameEnd b p s).lnk.orders = s.lnk.orders := by
  simp only [frameEnd]
  repeat' split
  all_goals simp

@[simp] theorem receiveByte_frame (b : Byte) (s : State) :
    (receiveByte b s).now = s.now ∧
      (receiveByte b s).psc = s.psc ∧
      (receiveByte b s).spd = s.spd ∧
      (receiveByte b s).gau = s.gau ∧
      (receiveByte b s).sdu = s.sdu ∧
      (receiveByte b s).nvs = s.nvs ∧
      (receiveByte b s).host = s.host ∧
      (receiveByte b s).freeCount = s.freeCount ∧
      (receiveByte b s).pending = s.pending ∧
      (receiveByte b s).lnk.port = s.lnk.port ∧
      (receiveByte b s).lnk.discard = s.lnk.discard ∧
      (receiveByte b s).lnk.causeEcho = s.lnk.causeEcho ∧
      (receiveByte b s).lnk.gaugeEcho = s.lnk.gaugeEcho ∧
      (receiveByte b s).lnk.textEcho = s.lnk.textEcho ∧
      (receiveByte b s).lnk.orders = s.lnk.orders := by
  simp only [receiveByte]
  repeat' split
  all_goals simp

@[simp] theorem stopBit_frame (b : Byte) (h : Bool) (s : State) :
    (stopBit b h s).now = s.now ∧
      (stopBit b h s).psc = s.psc ∧
      (stopBit b h s).spd = s.spd ∧
      (stopBit b h s).gau = s.gau ∧
      (stopBit b h s).sdu = s.sdu ∧
      (stopBit b h s).nvs = s.nvs ∧
      (stopBit b h s).host = s.host ∧
      (stopBit b h s).freeCount = s.freeCount ∧
      (stopBit b h s).pending = s.pending ∧
      (stopBit b h s).lnk.port = s.lnk.port ∧
      (stopBit b h s).lnk.discard = s.lnk.discard ∧
      (stopBit b h s).lnk.causeEcho = s.lnk.causeEcho ∧
      (stopBit b h s).lnk.gaugeEcho = s.lnk.gaugeEcho ∧
      (stopBit b h s).lnk.textEcho = s.lnk.textEcho ∧
      (stopBit b h s).lnk.orders = s.lnk.orders := by
  simp only [stopBit]
  repeat' split
  all_goals simp

@[simp] theorem tlrLoadingEnd_frame (s : State) :
    (tlrLoadingEnd s).now = s.now ∧
      (tlrLoadingEnd s).psc = s.psc ∧
      (tlrLoadingEnd s).spd = s.spd ∧
      (tlrLoadingEnd s).gau = s.gau ∧
      (tlrLoadingEnd s).ttu = s.ttu ∧
      (tlrLoadingEnd s).dtu = s.dtu ∧
      (tlrLoadingEnd s).sdu = s.sdu ∧
      (tlrLoadingEnd s).nvs = s.nvs ∧
      (tlrLoadingEnd s).host = s.host ∧
      (tlrLoadingEnd s).freeCount = s.freeCount ∧
      (tlrLoadingEnd s).pending = s.pending ∧
      (tlrLoadingEnd s).lnk = s.lnk := by
  simp [tlrLoadingEnd]

@[simp] theorem tlrStandbyEntry_frame (s : State) :
    (tlrStandbyEntry s).now = s.now ∧
      (tlrStandbyEntry s).psc = s.psc ∧
      (tlrStandbyEntry s).spd = s.spd ∧
      (tlrStandbyEntry s).gau = s.gau ∧
      (tlrStandbyEntry s).ttu = s.ttu ∧
      (tlrStandbyEntry s).dtu = s.dtu ∧
      (tlrStandbyEntry s).sdu = s.sdu ∧
      (tlrStandbyEntry s).nvs = s.nvs ∧
      (tlrStandbyEntry s).host = s.host ∧
      (tlrStandbyEntry s).freeCount = s.freeCount ∧
      (tlrStandbyEntry s).pending = s.pending ∧
      (tlrStandbyEntry s).lnk = s.lnk := by
  simp only [tlrStandbyEntry]
  repeat' split
  all_goals simp

@[simp] theorem tlrRunEntry_frame (s : State) :
    (tlrRunEntry s).now = s.now ∧
      (tlrRunEntry s).psc = s.psc ∧
      (tlrRunEntry s).spd = s.spd ∧
      (tlrRunEntry s).gau = s.gau ∧
      (tlrRunEntry s).sdu = s.sdu ∧
      (tlrRunEntry s).nvs = s.nvs ∧
      (tlrRunEntry s).host = s.host ∧
      (tlrRunEntry s).freeCount = s.freeCount ∧
      (tlrRunEntry s).pending = s.pending ∧
      (tlrRunEntry s).lnk.port = s.lnk.port ∧
      (tlrRunEntry s).lnk.discard = s.lnk.discard ∧
      (tlrRunEntry s).lnk.causeEcho = s.lnk.causeEcho ∧
      (tlrRunEntry s).lnk.gaugeEcho = s.lnk.gaugeEcho ∧
      (tlrRunEntry s).lnk.textEcho = s.lnk.textEcho ∧
      (tlrRunEntry s).lnk.orders = s.lnk.orders := by
  simp only [tlrRunEntry]
  repeat' split
  all_goals simp

end Sys2Proof.Machine
end

