-- ==== Sys2Proof/Laws/SpeedFrames.lean ====
section
/-! SUPPORT. What SPD's shared operations and NVS's ends of operations leave alone. -/

namespace Sys2Proof.Machine

@[simp] theorem evalOverspeed_frame (s : State) :
    (evalOverspeed s).now = s.now ∧
      (evalOverspeed s).psc = s.psc ∧
      (evalOverspeed s).gau = s.gau ∧
      (evalOverspeed s).tlr = s.tlr ∧
      (evalOverspeed s).dtu = s.dtu ∧
      (evalOverspeed s).sdu = s.sdu ∧
      (evalOverspeed s).nvs = s.nvs ∧
      (evalOverspeed s).host = s.host ∧
      (evalOverspeed s).freeCount = s.freeCount ∧
      (evalOverspeed s).pending = s.pending ∧
      (evalOverspeed s).lnk.port = s.lnk.port ∧
      (evalOverspeed s).lnk.discard = s.lnk.discard ∧
      (evalOverspeed s).lnk.causeEcho = s.lnk.causeEcho ∧
      (evalOverspeed s).lnk.gaugeEcho = s.lnk.gaugeEcho ∧
      (evalOverspeed s).lnk.textEcho = s.lnk.textEcho ∧
      (evalOverspeed s).lnk.orders = s.lnk.orders := by
  simp [evalOverspeed]

@[simp] theorem evalNoise_frame (r : Nat) (s : State) :
    (evalNoise r s).now = s.now ∧
      (evalNoise r s).psc = s.psc ∧
      (evalNoise r s).gau = s.gau ∧
      (evalNoise r s).tlr = s.tlr ∧
      (evalNoise r s).dtu = s.dtu ∧
      (evalNoise r s).sdu = s.sdu ∧
      (evalNoise r s).nvs = s.nvs ∧
      (evalNoise r s).host = s.host ∧
      (evalNoise r s).freeCount = s.freeCount ∧
      (evalNoise r s).pending = s.pending ∧
      (evalNoise r s).lnk.port = s.lnk.port ∧
      (evalNoise r s).lnk.discard = s.lnk.discard ∧
      (evalNoise r s).lnk.causeEcho = s.lnk.causeEcho ∧
      (evalNoise r s).lnk.gaugeEcho = s.lnk.gaugeEcho ∧
      (evalNoise r s).lnk.textEcho = s.lnk.textEcho ∧
      (evalNoise r s).lnk.orders = s.lnk.orders := by
  simp [evalNoise]

@[simp] theorem openGate_frame (s : State) :
    (openGate s).now = s.now ∧
      (openGate s).psc = s.psc ∧
      (openGate s).gau = s.gau ∧
      (openGate s).ttu = s.ttu ∧
      (openGate s).tlr = s.tlr ∧
      (openGate s).dtu = s.dtu ∧
      (openGate s).sdu = s.sdu ∧
      (openGate s).nvs = s.nvs ∧
      (openGate s).host = s.host ∧
      (openGate s).freeCount = s.freeCount ∧
      (openGate s).pending = s.pending ∧
      (openGate s).lnk = s.lnk := by
  simp [openGate]

@[simp] theorem closeGate_frame (g : Gate) (n : Nat) (s : State) :
    (closeGate g n s).now = s.now ∧
      (closeGate g n s).psc = s.psc ∧
      (closeGate g n s).tlr = s.tlr ∧
      (closeGate g n s).dtu = s.dtu ∧
      (closeGate g n s).sdu = s.sdu ∧
      (closeGate g n s).nvs = s.nvs ∧
      (closeGate g n s).host = s.host ∧
      (closeGate g n s).freeCount = s.freeCount ∧
      (closeGate g n s).pending = s.pending ∧
      (closeGate g n s).lnk.port = s.lnk.port ∧
      (closeGate g n s).lnk.discard = s.lnk.discard ∧
      (closeGate g n s).lnk.causeEcho = s.lnk.causeEcho ∧
      (closeGate g n s).lnk.gaugeEcho = s.lnk.gaugeEcho ∧
      (closeGate g n s).lnk.textEcho = s.lnk.textEcho ∧
      (closeGate g n s).lnk.orders = s.lnk.orders := by
  simp [closeGate]

@[simp] theorem gateEdge_frame (s : State) :
    (gateEdge s).now = s.now ∧
      (gateEdge s).psc = s.psc ∧
      (gateEdge s).tlr = s.tlr ∧
      (gateEdge s).dtu = s.dtu ∧
      (gateEdge s).sdu = s.sdu ∧
      (gateEdge s).nvs = s.nvs ∧
      (gateEdge s).host = s.host ∧
      (gateEdge s).freeCount = s.freeCount ∧
      (gateEdge s).pending = s.pending ∧
      (gateEdge s).lnk.port = s.lnk.port ∧
      (gateEdge s).lnk.discard = s.lnk.discard ∧
      (gateEdge s).lnk.causeEcho = s.lnk.causeEcho ∧
      (gateEdge s).lnk.gaugeEcho = s.lnk.gaugeEcho ∧
      (gateEdge s).lnk.textEcho = s.lnk.textEcho ∧
      (gateEdge s).lnk.orders = s.lnk.orders := by
  simp only [gateEdge]
  repeat' split
  all_goals simp

@[simp] theorem countUnit_frame (s : State) :
    (countUnit s).now = s.now ∧
      (countUnit s).psc = s.psc ∧
      (countUnit s).gau = s.gau ∧
      (countUnit s).tlr = s.tlr ∧
      (countUnit s).dtu = s.dtu ∧
      (countUnit s).sdu = s.sdu ∧
      (countUnit s).host = s.host ∧
      (countUnit s).freeCount = s.freeCount ∧
      (countUnit s).pending = s.pending ∧
      (countUnit s).nvs.array = s.nvs.array ∧
      (countUnit s).nvs.active = s.nvs.active ∧
      (countUnit s).nvs.pulse = s.nvs.pulse ∧
      (countUnit s).nvs.locked = s.nvs.locked ∧
      (countUnit s).nvs.loadControl = s.nvs.loadControl ∧
      (countUnit s).lnk.port = s.lnk.port ∧
      (countUnit s).lnk.discard = s.lnk.discard ∧
      (countUnit s).lnk.causeEcho = s.lnk.causeEcho ∧
      (countUnit s).lnk.gaugeEcho = s.lnk.gaugeEcho ∧
      (countUnit s).lnk.textEcho = s.lnk.textEcho := by
  simp only [countUnit]
  repeat' split
  all_goals simp

@[simp] theorem addDistance_frame (s : State) :
    (addDistance s).now = s.now ∧
      (addDistance s).psc = s.psc ∧
      (addDistance s).gau = s.gau ∧
      (addDistance s).tlr = s.tlr ∧
      (addDistance s).dtu = s.dtu ∧
      (addDistance s).sdu = s.sdu ∧
      (addDistance s).host = s.host ∧
      (addDistance s).freeCount = s.freeCount ∧
      (addDistance s).pending = s.pending ∧
      (addDistance s).nvs.array = s.nvs.array ∧
      (addDistance s).nvs.active = s.nvs.active ∧
      (addDistance s).nvs.pulse = s.nvs.pulse ∧
      (addDistance s).nvs.locked = s.nvs.locked ∧
      (addDistance s).nvs.loadControl = s.nvs.loadControl ∧
      (addDistance s).lnk.port = s.lnk.port ∧
      (addDistance s).lnk.discard = s.lnk.discard ∧
      (addDistance s).lnk.causeEcho = s.lnk.causeEcho ∧
      (addDistance s).lnk.gaugeEcho = s.lnk.gaugeEcho ∧
      (addDistance s).lnk.textEcho = s.lnk.textEcho := by
  simp only [addDistance]
  repeat' split
  all_goals simp

@[simp] theorem rejectEdge_frame (s : State) :
    (rejectEdge s).now = s.now ∧
      (rejectEdge s).psc = s.psc ∧
      (rejectEdge s).gau = s.gau ∧
      (rejectEdge s).ttu = s.ttu ∧
      (rejectEdge s).tlr = s.tlr ∧
      (rejectEdge s).dtu = s.dtu ∧
      (rejectEdge s).sdu = s.sdu ∧
      (rejectEdge s).nvs = s.nvs ∧
      (rejectEdge s).host = s.host ∧
      (rejectEdge s).freeCount = s.freeCount ∧
      (rejectEdge s).pending = s.pending ∧
      (rejectEdge s).lnk = s.lnk := by
  simp [rejectEdge]

@[simp] theorem acceptEdge_frame (s : State) :
    (acceptEdge s).now = s.now ∧
      (acceptEdge s).psc = s.psc ∧
      (acceptEdge s).tlr = s.tlr ∧
      (acceptEdge s).dtu = s.dtu ∧
      (acceptEdge s).sdu = s.sdu ∧
      (acceptEdge s).host = s.host ∧
      (acceptEdge s).freeCount = s.freeCount ∧
      (acceptEdge s).pending = s.pending ∧
      (acceptEdge s).nvs.array = s.nvs.array ∧
      (acceptEdge s).nvs.active = s.nvs.active ∧
      (acceptEdge s).nvs.pulse = s.nvs.pulse ∧
      (acceptEdge s).nvs.locked = s.nvs.locked ∧
      (acceptEdge s).nvs.loadControl = s.nvs.loadControl ∧
      (acceptEdge s).lnk.port = s.lnk.port ∧
      (acceptEdge s).lnk.discard = s.lnk.discard ∧
      (acceptEdge s).lnk.causeEcho = s.lnk.causeEcho ∧
      (acceptEdge s).lnk.gaugeEcho = s.lnk.gaugeEcho ∧
      (acceptEdge s).lnk.textEcho = s.lnk.textEcho := by
  simp [acceptEdge]

@[simp] theorem speedTransition_frame (b : Bool) (s : State) :
    (speedTransition b s).now = s.now ∧
      (speedTransition b s).psc = s.psc ∧
      (speedTransition b s).tlr = s.tlr ∧
      (speedTransition b s).dtu = s.dtu ∧
      (speedTransition b s).sdu = s.sdu ∧
      (speedTransition b s).host = s.host ∧
      (speedTransition b s).freeCount = s.freeCount ∧
      (speedTransition b s).pending = s.pending ∧
      (speedTransition b s).nvs.array = s.nvs.array ∧
      (speedTransition b s).nvs.active = s.nvs.active ∧
      (speedTransition b s).nvs.pulse = s.nvs.pulse ∧
      (speedTransition b s).nvs.locked = s.nvs.locked ∧
      (speedTransition b s).nvs.loadControl = s.nvs.loadControl ∧
      (speedTransition b s).lnk.port = s.lnk.port ∧
      (speedTransition b s).lnk.discard = s.lnk.discard ∧
      (speedTransition b s).lnk.causeEcho = s.lnk.causeEcho ∧
      (speedTransition b s).lnk.gaugeEcho = s.lnk.gaugeEcho ∧
      (speedTransition b s).lnk.textEcho = s.lnk.textEcho := by
  simp only [speedTransition]
  repeat' split
  all_goals simp

@[simp] theorem decay_frame (s : State) :
    (decay s).now = s.now ∧
      (decay s).psc = s.psc ∧
      (decay s).tlr = s.tlr ∧
      (decay s).dtu = s.dtu ∧
      (decay s).sdu = s.sdu ∧
      (decay s).nvs = s.nvs ∧
      (decay s).host = s.host ∧
      (decay s).freeCount = s.freeCount ∧
      (decay s).pending = s.pending ∧
      (decay s).lnk.port = s.lnk.port ∧
      (decay s).lnk.discard = s.lnk.discard ∧
      (decay s).lnk.causeEcho = s.lnk.causeEcho ∧
      (decay s).lnk.gaugeEcho = s.lnk.gaugeEcho ∧
      (decay s).lnk.textEcho = s.lnk.textEcho ∧
      (decay s).lnk.orders = s.lnk.orders := by
  simp only [decay]
  repeat' split
  all_goals simp

@[simp] theorem evalMoving_frame (s : State) :
    (evalMoving s).now = s.now ∧
      (evalMoving s).psc = s.psc ∧
      (evalMoving s).gau = s.gau ∧
      (evalMoving s).tlr = s.tlr ∧
      (evalMoving s).sdu = s.sdu ∧
      (evalMoving s).nvs = s.nvs ∧
      (evalMoving s).host = s.host ∧
      (evalMoving s).freeCount = s.freeCount ∧
      (evalMoving s).pending = s.pending ∧
      (evalMoving s).lnk.port = s.lnk.port ∧
      (evalMoving s).lnk.discard = s.lnk.discard ∧
      (evalMoving s).lnk.causeEcho = s.lnk.causeEcho ∧
      (evalMoving s).lnk.gaugeEcho = s.lnk.gaugeEcho ∧
      (evalMoving s).lnk.textEcho = s.lnk.textEcho ∧
      (evalMoving s).lnk.orders = s.lnk.orders := by
  simp only [evalMoving]
  repeat' split
  all_goals simp

@[simp] theorem speedUpdate_frame (s : State) :
    (speedUpdate s).now = s.now ∧
      (speedUpdate s).psc = s.psc ∧
      (speedUpdate s).tlr = s.tlr ∧
      (speedUpdate s).sdu = s.sdu ∧
      (speedUpdate s).nvs = s.nvs ∧
      (speedUpdate s).host = s.host ∧
      (speedUpdate s).freeCount = s.freeCount ∧
      (speedUpdate s).pending = s.pending ∧
      (speedUpdate s).lnk.port = s.lnk.port ∧
      (speedUpdate s).lnk.discard = s.lnk.discard ∧
      (speedUpdate s).lnk.causeEcho = s.lnk.causeEcho ∧
      (speedUpdate s).lnk.gaugeEcho = s.lnk.gaugeEcho ∧
      (speedUpdate s).lnk.textEcho = s.lnk.textEcho ∧
      (speedUpdate s).lnk.orders = s.lnk.orders := by
  simp only [speedUpdate]
  repeat' split
  all_goals simp

@[simp] theorem expireStall_frame (s : State) :
    (expireStall s).now = s.now ∧
      (expireStall s).psc = s.psc ∧
      (expireStall s).tlr = s.tlr ∧
      (expireStall s).dtu = s.dtu ∧
      (expireStall s).sdu = s.sdu ∧
      (expireStall s).nvs = s.nvs ∧
      (expireStall s).host = s.host ∧
      (expireStall s).freeCount = s.freeCount ∧
      (expireStall s).pending = s.pending ∧
      (expireStall s).lnk.port = s.lnk.port ∧
      (expireStall s).lnk.discard = s.lnk.discard ∧
      (expireStall s).lnk.causeEcho = s.lnk.causeEcho ∧
      (expireStall s).lnk.gaugeEcho = s.lnk.gaugeEcho ∧
      (expireStall s).lnk.textEcho = s.lnk.textEcho ∧
      (expireStall s).lnk.orders = s.lnk.orders := by
  simp only [expireStall]
  repeat' split
  all_goals simp

@[simp] theorem resetTrips_frame (n : Nat) (s : State) :
    (resetTrips n s).now = s.now ∧
      (resetTrips n s).psc = s.psc ∧
      (resetTrips n s).gau = s.gau ∧
      (resetTrips n s).ttu = s.ttu ∧
      (resetTrips n s).tlr = s.tlr ∧
      (resetTrips n s).dtu = s.dtu ∧
      (resetTrips n s).sdu = s.sdu ∧
      (resetTrips n s).nvs = s.nvs ∧
      (resetTrips n s).host = s.host ∧
      (resetTrips n s).freeCount = s.freeCount ∧
      (resetTrips n s).pending = s.pending ∧
      (resetTrips n s).lnk = s.lnk := by
  simp only [resetTrips]
  repeat' split
  all_goals simp

@[simp] theorem spdNewPulse_frame (s : State) :
    (spdNewPulse s).now = s.now ∧
      (spdNewPulse s).psc = s.psc ∧
      (spdNewPulse s).tlr = s.tlr ∧
      (spdNewPulse s).dtu = s.dtu ∧
      (spdNewPulse s).sdu = s.sdu ∧
      (spdNewPulse s).nvs = s.nvs ∧
      (spdNewPulse s).host = s.host ∧
      (spdNewPulse s).freeCount = s.freeCount ∧
      (spdNewPulse s).pending = s.pending ∧
      (spdNewPulse s).lnk.port = s.lnk.port ∧
      (spdNewPulse s).lnk.discard = s.lnk.discard ∧
      (spdNewPulse s).lnk.causeEcho = s.lnk.causeEcho ∧
      (spdNewPulse s).lnk.gaugeEcho = s.lnk.gaugeEcho ∧
      (spdNewPulse s).lnk.textEcho = s.lnk.textEcho ∧
      (spdNewPulse s).lnk.orders = s.lnk.orders := by
  simp [spdNewPulse]

@[simp] theorem spdStandbyEntry_frame (s : State) :
    (spdStandbyEntry s).now = s.now ∧
      (spdStandbyEntry s).psc = s.psc ∧
      (spdStandbyEntry s).tlr = s.tlr ∧
      (spdStandbyEntry s).sdu = s.sdu ∧
      (spdStandbyEntry s).nvs = s.nvs ∧
      (spdStandbyEntry s).host = s.host ∧
      (spdStandbyEntry s).freeCount = s.freeCount ∧
      (spdStandbyEntry s).pending = s.pending ∧
      (spdStandbyEntry s).lnk.port = s.lnk.port ∧
      (spdStandbyEntry s).lnk.discard = s.lnk.discard ∧
      (spdStandbyEntry s).lnk.causeEcho = s.lnk.causeEcho ∧
      (spdStandbyEntry s).lnk.gaugeEcho = s.lnk.gaugeEcho ∧
      (spdStandbyEntry s).lnk.textEcho = s.lnk.textEcho ∧
      (spdStandbyEntry s).lnk.orders = s.lnk.orders := by
  simp only [spdStandbyEntry]
  repeat' split
  all_goals simp

@[simp] theorem failProgram_frame (p : Prog) (s : State) :
    (failProgram p s).now = s.now ∧
      (failProgram p s).psc = s.psc ∧
      (failProgram p s).spd = s.spd ∧
      (failProgram p s).gau = s.gau ∧
      (failProgram p s).tlr = s.tlr ∧
      (failProgram p s).dtu = s.dtu ∧
      (failProgram p s).sdu = s.sdu ∧
      (failProgram p s).host = s.host ∧
      (failProgram p s).freeCount = s.freeCount ∧
      (failProgram p s).pending = s.pending ∧
      (failProgram p s).nvs.array = s.nvs.array ∧
      (failProgram p s).nvs.active = s.nvs.active ∧
      (failProgram p s).nvs.pulse = s.nvs.pulse ∧
      (failProgram p s).nvs.locked = s.nvs.locked ∧
      (failProgram p s).nvs.loadControl = s.nvs.loadControl ∧
      (failProgram p s).lnk.port = s.lnk.port ∧
      (failProgram p s).lnk.discard = s.lnk.discard ∧
      (failProgram p s).lnk.causeEcho = s.lnk.causeEcho ∧
      (failProgram p s).lnk.gaugeEcho = s.lnk.gaugeEcho ∧
      (failProgram p s).lnk.textEcho = s.lnk.textEcho := by
  simp only [failProgram]
  repeat' split
  all_goals simp

@[simp] theorem afterProgram_frame (u : Option EraseOp) (s : State) :
    (afterProgram u s).now = s.now ∧
      (afterProgram u s).psc = s.psc ∧
      (afterProgram u s).spd = s.spd ∧
      (afterProgram u s).gau = s.gau ∧
      (afterProgram u s).tlr = s.tlr ∧
      (afterProgram u s).dtu = s.dtu ∧
      (afterProgram u s).sdu = s.sdu ∧
      (afterProgram u s).host = s.host ∧
      (afterProgram u s).freeCount = s.freeCount ∧
      (afterProgram u s).pending = s.pending ∧
      (afterProgram u s).nvs.array = s.nvs.array ∧
      (afterProgram u s).nvs.active = s.nvs.active ∧
      (afterProgram u s).nvs.pulse = s.nvs.pulse ∧
      (afterProgram u s).nvs.locked = s.nvs.locked ∧
      (afterProgram u s).nvs.loadControl = s.nvs.loadControl ∧
      (afterProgram u s).lnk.port = s.lnk.port ∧
      (afterProgram u s).lnk.discard = s.lnk.discard ∧
      (afterProgram u s).lnk.causeEcho = s.lnk.causeEcho ∧
      (afterProgram u s).lnk.gaugeEcho = s.lnk.gaugeEcho ∧
      (afterProgram u s).lnk.textEcho = s.lnk.textEcho := by
  simp only [afterProgram]
  repeat' split
  all_goals simp

@[simp] theorem landProgram_frame (p : Prog) (c : Cells) (s : State) :
    (landProgram p c s).now = s.now ∧
      (landProgram p c s).psc = s.psc ∧
      (landProgram p c s).spd = s.spd ∧
      (landProgram p c s).gau = s.gau ∧
      (landProgram p c s).ttu = s.ttu ∧
      (landProgram p c s).tlr = s.tlr ∧
      (landProgram p c s).dtu = s.dtu ∧
      (landProgram p c s).sdu = s.sdu ∧
      (landProgram p c s).host = s.host ∧
      (landProgram p c s).freeCount = s.freeCount ∧
      (landProgram p c s).pending = s.pending ∧
      (landProgram p c s).lnk = s.lnk := by
  simp [landProgram]

@[simp] theorem endOdo_frame (p : Prog) (c : Cells) (s : State) :
    (endOdo p c s).now = s.now ∧
      (endOdo p c s).psc = s.psc ∧
      (endOdo p c s).spd = s.spd ∧
      (endOdo p c s).gau = s.gau ∧
      (endOdo p c s).tlr = s.tlr ∧
      (endOdo p c s).dtu = s.dtu ∧
      (endOdo p c s).sdu = s.sdu ∧
      (endOdo p c s).host = s.host ∧
      (endOdo p c s).freeCount = s.freeCount ∧
      (endOdo p c s).pending = s.pending ∧
      (endOdo p c s).lnk.port = s.lnk.port ∧
      (endOdo p c s).lnk.discard = s.lnk.discard ∧
      (endOdo p c s).lnk.causeEcho = s.lnk.causeEcho ∧
      (endOdo p c s).lnk.gaugeEcho = s.lnk.gaugeEcho ∧
      (endOdo p c s).lnk.textEcho = s.lnk.textEcho := by
  simp only [endOdo]
  repeat' split
  all_goals simp

@[simp] theorem endCal_frame (p : Prog) (c : Cells) (s : State) :
    (endCal p c s).now = s.now ∧
      (endCal p c s).psc = s.psc ∧
      (endCal p c s).tlr = s.tlr ∧
      (endCal p c s).dtu = s.dtu ∧
      (endCal p c s).sdu = s.sdu ∧
      (endCal p c s).host = s.host ∧
      (endCal p c s).freeCount = s.freeCount ∧
      (endCal p c s).pending = s.pending ∧
      (endCal p c s).lnk.port = s.lnk.port ∧
      (endCal p c s).lnk.discard = s.lnk.discard ∧
      (endCal p c s).lnk.causeEcho = s.lnk.causeEcho ∧
      (endCal p c s).lnk.gaugeEcho = s.lnk.gaugeEcho ∧
      (endCal p c s).lnk.textEcho = s.lnk.textEcho := by
  simp only [endCal]
  repeat' split
  all_goals simp

@[simp] theorem endSnap_frame (p : Prog) (c : Cells) (s : State) :
    (endSnap p c s).now = s.now ∧
      (endSnap p c s).psc = s.psc ∧
      (endSnap p c s).spd = s.spd ∧
      (endSnap p c s).gau = s.gau ∧
      (endSnap p c s).tlr = s.tlr ∧
      (endSnap p c s).dtu = s.dtu ∧
      (endSnap p c s).sdu = s.sdu ∧
      (endSnap p c s).host = s.host ∧
      (endSnap p c s).freeCount = s.freeCount ∧
      (endSnap p c s).pending = s.pending ∧
      (endSnap p c s).lnk.port = s.lnk.port ∧
      (endSnap p c s).lnk.discard = s.lnk.discard ∧
      (endSnap p c s).lnk.causeEcho = s.lnk.causeEcho ∧
      (endSnap p c s).lnk.gaugeEcho = s.lnk.gaugeEcho ∧
      (endSnap p c s).lnk.textEcho = s.lnk.textEcho := by
  simp only [endSnap]
  repeat' split
  all_goals simp

@[simp] theorem endSets_frame (p : Prog) (c : Cells) (s : State) :
    (endSets p c s).now = s.now ∧
      (endSets p c s).psc = s.psc ∧
      (endSets p c s).spd = s.spd ∧
      (endSets p c s).gau = s.gau ∧
      (endSets p c s).tlr = s.tlr ∧
      (endSets p c s).dtu = s.dtu ∧
      (endSets p c s).sdu = s.sdu ∧
      (endSets p c s).host = s.host ∧
      (endSets p c s).freeCount = s.freeCount ∧
      (endSets p c s).pending = s.pending ∧
      (endSets p c s).lnk.port = s.lnk.port ∧
      (endSets p c s).lnk.discard = s.lnk.discard ∧
      (endSets p c s).lnk.causeEcho = s.lnk.causeEcho ∧
      (endSets p c s).lnk.gaugeEcho = s.lnk.gaugeEcho ∧
      (endSets p c s).lnk.textEcho = s.lnk.textEcho := by
  simp only [endSets]
  repeat' split
  all_goals simp

@[simp] theorem eraseSector_frame (x : Nat) (s : State) :
    (eraseSector x s).now = s.now ∧
      (eraseSector x s).psc = s.psc ∧
      (eraseSector x s).spd = s.spd ∧
      (eraseSector x s).gau = s.gau ∧
      (eraseSector x s).ttu = s.ttu ∧
      (eraseSector x s).tlr = s.tlr ∧
      (eraseSector x s).dtu = s.dtu ∧
      (eraseSector x s).sdu = s.sdu ∧
      (eraseSector x s).host = s.host ∧
      (eraseSector x s).freeCount = s.freeCount ∧
      (eraseSector x s).pending = s.pending ∧
      (eraseSector x s).lnk = s.lnk := by
  simp [eraseSector]

@[simp] theorem endSetsErase_frame (e : EraseOp) (s : State) :
    (endSetsErase e s).now = s.now ∧
      (endSetsErase e s).psc = s.psc ∧
      (endSetsErase e s).spd = s.spd ∧
      (endSetsErase e s).gau = s.gau ∧
      (endSetsErase e s).ttu = s.ttu ∧
      (endSetsErase e s).tlr = s.tlr ∧
      (endSetsErase e s).dtu = s.dtu ∧
      (endSetsErase e s).sdu = s.sdu ∧
      (endSetsErase e s).host = s.host ∧
      (endSetsErase e s).freeCount = s.freeCount ∧
      (endSetsErase e s).pending = s.pending ∧
      (endSetsErase e s).lnk = s.lnk := by
  simp [endSetsErase]

@[simp] theorem endErase_frame (e : EraseOp) (s : State) :
    (endErase e s).now = s.now ∧
      (endErase e s).psc = s.psc ∧
      (endErase e s).spd = s.spd ∧
      (endErase e s).gau = s.gau ∧
      (endErase e s).tlr = s.tlr ∧
      (endErase e s).dtu = s.dtu ∧
      (endErase e s).sdu = s.sdu ∧
      (endErase e s).host = s.host ∧
      (endErase e s).freeCount = s.freeCount ∧
      (endErase e s).pending = s.pending ∧
      (endErase e s).lnk.port = s.lnk.port ∧
      (endErase e s).lnk.discard = s.lnk.discard ∧
      (endErase e s).lnk.causeEcho = s.lnk.causeEcho ∧
      (endErase e s).lnk.gaugeEcho = s.lnk.gaugeEcho ∧
      (endErase e s).lnk.textEcho = s.lnk.textEcho := by
  simp [endErase]

@[simp] theorem interruptErase_frame (e : EraseOp) (s : State) :
    (interruptErase e s).now = s.now ∧
      (interruptErase e s).psc = s.psc ∧
      (interruptErase e s).spd = s.spd ∧
      (interruptErase e s).gau = s.gau ∧
      (interruptErase e s).ttu = s.ttu ∧
      (interruptErase e s).tlr = s.tlr ∧
      (interruptErase e s).dtu = s.dtu ∧
      (interruptErase e s).sdu = s.sdu ∧
      (interruptErase e s).host = s.host ∧
      (interruptErase e s).pending = s.pending ∧
      (interruptErase e s).lnk = s.lnk := by
  simp [interruptErase]

@[simp] theorem abandonErase_frame (e : EraseOp) (s : State) :
    (abandonErase e s).now = s.now ∧
      (abandonErase e s).psc = s.psc ∧
      (abandonErase e s).spd = s.spd ∧
      (abandonErase e s).gau = s.gau ∧
      (abandonErase e s).ttu = s.ttu ∧
      (abandonErase e s).tlr = s.tlr ∧
      (abandonErase e s).dtu = s.dtu ∧
      (abandonErase e s).sdu = s.sdu ∧
      (abandonErase e s).host = s.host ∧
      (abandonErase e s).pending = s.pending ∧
      (abandonErase e s).lnk = s.lnk := by
  simp only [abandonErase]
  repeat' split
  all_goals simp

@[simp] theorem nvsLowSet_frame (s : State) :
    (nvsLowSet s).now = s.now ∧
      (nvsLowSet s).psc = s.psc ∧
      (nvsLowSet s).spd = s.spd ∧
      (nvsLowSet s).gau = s.gau ∧
      (nvsLowSet s).ttu = s.ttu ∧
      (nvsLowSet s).tlr = s.tlr ∧
      (nvsLowSet s).dtu = s.dtu ∧
      (nvsLowSet s).sdu = s.sdu ∧
      (nvsLowSet s).host = s.host ∧
      (nvsLowSet s).pending = s.pending ∧
      (nvsLowSet s).lnk = s.lnk := by
  simp only [nvsLowSet]
  repeat' split
  all_goals simp

@[simp] theorem cutProgram_frame (p : Prog) (s : State) :
    (cutProgram p s).now = s.now ∧
      (cutProgram p s).psc = s.psc ∧
      (cutProgram p s).spd = s.spd ∧
      (cutProgram p s).gau = s.gau ∧
      (cutProgram p s).ttu = s.ttu ∧
      (cutProgram p s).tlr = s.tlr ∧
      (cutProgram p s).dtu = s.dtu ∧
      (cutProgram p s).sdu = s.sdu ∧
      (cutProgram p s).host = s.host ∧
      (cutProgram p s).freeCount = s.freeCount ∧
      (cutProgram p s).pending = s.pending ∧
      (cutProgram p s).lnk = s.lnk := by
  simp [cutProgram]

@[simp] theorem nvsCutOff_frame (s : State) :
    (nvsCutOff s).now = s.now ∧
      (nvsCutOff s).psc = s.psc ∧
      (nvsCutOff s).spd = s.spd ∧
      (nvsCutOff s).gau = s.gau ∧
      (nvsCutOff s).ttu = s.ttu ∧
      (nvsCutOff s).tlr = s.tlr ∧
      (nvsCutOff s).dtu = s.dtu ∧
      (nvsCutOff s).sdu = s.sdu ∧
      (nvsCutOff s).host = s.host ∧
      (nvsCutOff s).pending = s.pending ∧
      (nvsCutOff s).lnk = s.lnk := by
  simp only [nvsCutOff]
  repeat' split
  all_goals simp

@[simp] theorem nvsStandbyEntry_frame (s : State) :
    (nvsStandbyEntry s).now = s.now ∧
      (nvsStandbyEntry s).psc = s.psc ∧
      (nvsStandbyEntry s).spd = s.spd ∧
      (nvsStandbyEntry s).gau = s.gau ∧
      (nvsStandbyEntry s).ttu = s.ttu ∧
      (nvsStandbyEntry s).tlr = s.tlr ∧
      (nvsStandbyEntry s).dtu = s.dtu ∧
      (nvsStandbyEntry s).sdu = s.sdu ∧
      (nvsStandbyEntry s).host = s.host ∧
      (nvsStandbyEntry s).freeCount = s.freeCount ∧
      (nvsStandbyEntry s).pending = s.pending ∧
      (nvsStandbyEntry s).nvs.array = s.nvs.array ∧
      (nvsStandbyEntry s).nvs.active = s.nvs.active ∧
      (nvsStandbyEntry s).nvs.pulse = s.nvs.pulse ∧
      (nvsStandbyEntry s).nvs.locked = s.nvs.locked ∧
      (nvsStandbyEntry s).nvs.loadControl = s.nvs.loadControl ∧
      (nvsStandbyEntry s).lnk = s.lnk := by
  simp [nvsStandbyEntry]

@[simp] theorem nvsRunEntry_frame (s : State) :
    (nvsRunEntry s).now = s.now ∧
      (nvsRunEntry s).psc = s.psc ∧
      (nvsRunEntry s).spd = s.spd ∧
      (nvsRunEntry s).gau = s.gau ∧
      (nvsRunEntry s).tlr = s.tlr ∧
      (nvsRunEntry s).dtu = s.dtu ∧
      (nvsRunEntry s).sdu = s.sdu ∧
      (nvsRunEntry s).host = s.host ∧
      (nvsRunEntry s).freeCount = s.freeCount ∧
      (nvsRunEntry s).pending = s.pending ∧
      (nvsRunEntry s).nvs.array = s.nvs.array ∧
      (nvsRunEntry s).nvs.active = s.nvs.active ∧
      (nvsRunEntry s).nvs.pulse = s.nvs.pulse ∧
      (nvsRunEntry s).nvs.locked = s.nvs.locked ∧
      (nvsRunEntry s).nvs.loadControl = s.nvs.loadControl ∧
      (nvsRunEntry s).lnk.port = s.lnk.port ∧
      (nvsRunEntry s).lnk.discard = s.lnk.discard ∧
      (nvsRunEntry s).lnk.causeEcho = s.lnk.causeEcho ∧
      (nvsRunEntry s).lnk.gaugeEcho = s.lnk.gaugeEcho ∧
      (nvsRunEntry s).lnk.textEcho = s.lnk.textEcho ∧
      (nvsRunEntry s).lnk.orders = s.lnk.orders := by
  simp [nvsRunEntry]

end Sys2Proof.Machine
end

