-- ==== Sys2Proof/Laws/LinkFrames.lean ====
section
/-! SUPPORT. What SDU's, the order logic's and the port's shared operations leave alone. -/

namespace Sys2Proof.Machine

@[simp] theorem countCompose_frame (s : State) :
    (countCompose s).now = s.now ∧
      (countCompose s).psc = s.psc ∧
      (countCompose s).spd = s.spd ∧
      (countCompose s).gau = s.gau ∧
      (countCompose s).ttu = s.ttu ∧
      (countCompose s).tlr = s.tlr ∧
      (countCompose s).dtu = s.dtu ∧
      (countCompose s).nvs = s.nvs ∧
      (countCompose s).host = s.host ∧
      (countCompose s).freeCount = s.freeCount ∧
      (countCompose s).pending = s.pending ∧
      (countCompose s).lnk = s.lnk := by
  simp [countCompose]

@[simp] theorem compose_frame (s : State) :
    (compose s).now = s.now ∧
      (compose s).psc = s.psc ∧
      (compose s).spd = s.spd ∧
      (compose s).gau = s.gau ∧
      (compose s).ttu = s.ttu ∧
      (compose s).tlr = s.tlr ∧
      (compose s).dtu = s.dtu ∧
      (compose s).nvs = s.nvs ∧
      (compose s).host = s.host ∧
      (compose s).freeCount = s.freeCount ∧
      (compose s).pending = s.pending ∧
      (compose s).lnk = s.lnk := by
  simp only [compose]
  repeat' split
  all_goals simp

@[simp] theorem stepBlink_frame (s : State) :
    (stepBlink s).now = s.now ∧
      (stepBlink s).psc = s.psc ∧
      (stepBlink s).spd = s.spd ∧
      (stepBlink s).gau = s.gau ∧
      (stepBlink s).ttu = s.ttu ∧
      (stepBlink s).tlr = s.tlr ∧
      (stepBlink s).dtu = s.dtu ∧
      (stepBlink s).nvs = s.nvs ∧
      (stepBlink s).host = s.host ∧
      (stepBlink s).freeCount = s.freeCount ∧
      (stepBlink s).pending = s.pending ∧
      (stepBlink s).lnk = s.lnk := by
  simp only [stepBlink]
  repeat' split
  all_goals simp

@[simp] theorem startFrame_frame (b : Bool) (s : State) :
    (startFrame b s).now = s.now ∧
      (startFrame b s).psc = s.psc ∧
      (startFrame b s).spd = s.spd ∧
      (startFrame b s).gau = s.gau ∧
      (startFrame b s).ttu = s.ttu ∧
      (startFrame b s).tlr = s.tlr ∧
      (startFrame b s).dtu = s.dtu ∧
      (startFrame b s).nvs = s.nvs ∧
      (startFrame b s).host = s.host ∧
      (startFrame b s).freeCount = s.freeCount ∧
      (startFrame b s).pending = s.pending ∧
      (startFrame b s).lnk = s.lnk := by
  simp only [startFrame]
  repeat' split
  all_goals simp

@[simp] theorem sduRunEntry_frame (s : State) :
    (sduRunEntry s).now = s.now ∧
      (sduRunEntry s).psc = s.psc ∧
      (sduRunEntry s).spd = s.spd ∧
      (sduRunEntry s).gau = s.gau ∧
      (sduRunEntry s).ttu = s.ttu ∧
      (sduRunEntry s).tlr = s.tlr ∧
      (sduRunEntry s).dtu = s.dtu ∧
      (sduRunEntry s).nvs = s.nvs ∧
      (sduRunEntry s).host = s.host ∧
      (sduRunEntry s).freeCount = s.freeCount ∧
      (sduRunEntry s).pending = s.pending ∧
      (sduRunEntry s).lnk = s.lnk := by
  simp [sduRunEntry]

@[simp] theorem sduProofEnd_frame (s : State) :
    (sduProofEnd s).now = s.now ∧
      (sduProofEnd s).psc = s.psc ∧
      (sduProofEnd s).spd = s.spd ∧
      (sduProofEnd s).gau = s.gau ∧
      (sduProofEnd s).ttu = s.ttu ∧
      (sduProofEnd s).tlr = s.tlr ∧
      (sduProofEnd s).dtu = s.dtu ∧
      (sduProofEnd s).nvs = s.nvs ∧
      (sduProofEnd s).host = s.host ∧
      (sduProofEnd s).freeCount = s.freeCount ∧
      (sduProofEnd s).pending = s.pending ∧
      (sduProofEnd s).lnk = s.lnk := by
  simp [sduProofEnd]

@[simp] theorem sduStandbyEntry_frame (s : State) :
    (sduStandbyEntry s).now = s.now ∧
      (sduStandbyEntry s).psc = s.psc ∧
      (sduStandbyEntry s).spd = s.spd ∧
      (sduStandbyEntry s).gau = s.gau ∧
      (sduStandbyEntry s).ttu = s.ttu ∧
      (sduStandbyEntry s).tlr = s.tlr ∧
      (sduStandbyEntry s).dtu = s.dtu ∧
      (sduStandbyEntry s).nvs = s.nvs ∧
      (sduStandbyEntry s).host = s.host ∧
      (sduStandbyEntry s).freeCount = s.freeCount ∧
      (sduStandbyEntry s).pending = s.pending ∧
      (sduStandbyEntry s).lnk = s.lnk := by
  simp [sduStandbyEntry]

@[simp] theorem takeText_frame (n : Fin 4) (s : State) :
    (takeText n s).now = s.now ∧
      (takeText n s).psc = s.psc ∧
      (takeText n s).spd = s.spd ∧
      (takeText n s).gau = s.gau ∧
      (takeText n s).ttu = s.ttu ∧
      (takeText n s).tlr = s.tlr ∧
      (takeText n s).dtu = s.dtu ∧
      (takeText n s).nvs = s.nvs ∧
      (takeText n s).host = s.host ∧
      (takeText n s).freeCount = s.freeCount ∧
      (takeText n s).pending = s.pending ∧
      (takeText n s).lnk.port = s.lnk.port ∧
      (takeText n s).lnk.discard = s.lnk.discard ∧
      (takeText n s).lnk.causeEcho = s.lnk.causeEcho ∧
      (takeText n s).lnk.gaugeEcho = s.lnk.gaugeEcho ∧
      (takeText n s).lnk.orders = s.lnk.orders ∧
      (takeText n s).lnk.journal = s.lnk.journal ∧
      (takeText n s).lnk.cursor = s.lnk.cursor ∧
      (takeText n s).lnk.postCounter = s.lnk.postCounter ∧
      (takeText n s).lnk.backlog = s.lnk.backlog := by
  simp [takeText]

@[simp] theorem takeAcknowledge_frame (k : Fin 8) (n : Nat) (s : State) :
    (takeAcknowledge k n s).now = s.now ∧
      (takeAcknowledge k n s).psc = s.psc ∧
      (takeAcknowledge k n s).spd = s.spd ∧
      (takeAcknowledge k n s).gau = s.gau ∧
      (takeAcknowledge k n s).tlr = s.tlr ∧
      (takeAcknowledge k n s).dtu = s.dtu ∧
      (takeAcknowledge k n s).sdu = s.sdu ∧
      (takeAcknowledge k n s).nvs = s.nvs ∧
      (takeAcknowledge k n s).host = s.host ∧
      (takeAcknowledge k n s).freeCount = s.freeCount ∧
      (takeAcknowledge k n s).pending = s.pending ∧
      (takeAcknowledge k n s).lnk.port = s.lnk.port ∧
      (takeAcknowledge k n s).lnk.discard = s.lnk.discard ∧
      (takeAcknowledge k n s).lnk.causeEcho = s.lnk.causeEcho ∧
      (takeAcknowledge k n s).lnk.gaugeEcho = s.lnk.gaugeEcho ∧
      (takeAcknowledge k n s).lnk.textEcho = s.lnk.textEcho := by
  simp only [takeAcknowledge]
  repeat' split
  all_goals simp

@[simp] theorem takeResetTrip_frame (k : Fin 8) (n : Nat) (s : State) :
    (takeResetTrip k n s).now = s.now ∧
      (takeResetTrip k n s).psc = s.psc ∧
      (takeResetTrip k n s).gau = s.gau ∧
      (takeResetTrip k n s).ttu = s.ttu ∧
      (takeResetTrip k n s).tlr = s.tlr ∧
      (takeResetTrip k n s).dtu = s.dtu ∧
      (takeResetTrip k n s).sdu = s.sdu ∧
      (takeResetTrip k n s).nvs = s.nvs ∧
      (takeResetTrip k n s).host = s.host ∧
      (takeResetTrip k n s).freeCount = s.freeCount ∧
      (takeResetTrip k n s).pending = s.pending ∧
      (takeResetTrip k n s).lnk.port = s.lnk.port ∧
      (takeResetTrip k n s).lnk.discard = s.lnk.discard ∧
      (takeResetTrip k n s).lnk.causeEcho = s.lnk.causeEcho ∧
      (takeResetTrip k n s).lnk.gaugeEcho = s.lnk.gaugeEcho ∧
      (takeResetTrip k n s).lnk.textEcho = s.lnk.textEcho ∧
      (takeResetTrip k n s).lnk.journal = s.lnk.journal ∧
      (takeResetTrip k n s).lnk.cursor = s.lnk.cursor ∧
      (takeResetTrip k n s).lnk.postCounter = s.lnk.postCounter ∧
      (takeResetTrip k n s).lnk.backlog = s.lnk.backlog := by
  simp only [takeResetTrip]
  repeat' split
  all_goals simp

@[simp] theorem takeRehome_frame (k : Fin 8) (m : Byte) (s : State) :
    (takeRehome k m s).now = s.now ∧
      (takeRehome k m s).psc = s.psc ∧
      (takeRehome k m s).spd = s.spd ∧
      (takeRehome k m s).tlr = s.tlr ∧
      (takeRehome k m s).dtu = s.dtu ∧
      (takeRehome k m s).sdu = s.sdu ∧
      (takeRehome k m s).nvs = s.nvs ∧
      (takeRehome k m s).host = s.host ∧
      (takeRehome k m s).freeCount = s.freeCount ∧
      (takeRehome k m s).pending = s.pending ∧
      (takeRehome k m s).lnk.port = s.lnk.port ∧
      (takeRehome k m s).lnk.discard = s.lnk.discard ∧
      (takeRehome k m s).lnk.causeEcho = s.lnk.causeEcho ∧
      (takeRehome k m s).lnk.gaugeEcho = s.lnk.gaugeEcho ∧
      (takeRehome k m s).lnk.textEcho = s.lnk.textEcho := by
  simp only [takeRehome]
  repeat' split
  all_goals simp

@[simp] theorem takeLampTest_frame (k : Fin 8) (n : Nat) (s : State) :
    (takeLampTest k n s).now = s.now ∧
      (takeLampTest k n s).psc = s.psc ∧
      (takeLampTest k n s).spd = s.spd ∧
      (takeLampTest k n s).gau = s.gau ∧
      (takeLampTest k n s).tlr = s.tlr ∧
      (takeLampTest k n s).dtu = s.dtu ∧
      (takeLampTest k n s).sdu = s.sdu ∧
      (takeLampTest k n s).nvs = s.nvs ∧
      (takeLampTest k n s).host = s.host ∧
      (takeLampTest k n s).freeCount = s.freeCount ∧
      (takeLampTest k n s).pending = s.pending ∧
      (takeLampTest k n s).lnk.port = s.lnk.port ∧
      (takeLampTest k n s).lnk.discard = s.lnk.discard ∧
      (takeLampTest k n s).lnk.causeEcho = s.lnk.causeEcho ∧
      (takeLampTest k n s).lnk.gaugeEcho = s.lnk.gaugeEcho ∧
      (takeLampTest k n s).lnk.textEcho = s.lnk.textEcho := by
  simp only [takeLampTest]
  repeat' split
  all_goals simp

@[simp] theorem takeSetTime_frame (k : Fin 8) (a b c : Nat) (s : State) :
    (takeSetTime k a b c s).now = s.now ∧
      (takeSetTime k a b c s).psc = s.psc ∧
      (takeSetTime k a b c s).spd = s.spd ∧
      (takeSetTime k a b c s).gau = s.gau ∧
      (takeSetTime k a b c s).ttu = s.ttu ∧
      (takeSetTime k a b c s).tlr = s.tlr ∧
      (takeSetTime k a b c s).sdu = s.sdu ∧
      (takeSetTime k a b c s).nvs = s.nvs ∧
      (takeSetTime k a b c s).host = s.host ∧
      (takeSetTime k a b c s).freeCount = s.freeCount ∧
      (takeSetTime k a b c s).pending = s.pending ∧
      (takeSetTime k a b c s).lnk.port = s.lnk.port ∧
      (takeSetTime k a b c s).lnk.discard = s.lnk.discard ∧
      (takeSetTime k a b c s).lnk.causeEcho = s.lnk.causeEcho ∧
      (takeSetTime k a b c s).lnk.gaugeEcho = s.lnk.gaugeEcho ∧
      (takeSetTime k a b c s).lnk.textEcho = s.lnk.textEcho := by
  simp only [takeSetTime]
  repeat' split
  all_goals simp

@[simp] theorem takeTakeSnapshot_frame (k : Fin 8) (s : State) :
    (takeTakeSnapshot k s).now = s.now ∧
      (takeTakeSnapshot k s).psc = s.psc ∧
      (takeTakeSnapshot k s).spd = s.spd ∧
      (takeTakeSnapshot k s).gau = s.gau ∧
      (takeTakeSnapshot k s).tlr = s.tlr ∧
      (takeTakeSnapshot k s).dtu = s.dtu ∧
      (takeTakeSnapshot k s).sdu = s.sdu ∧
      (takeTakeSnapshot k s).host = s.host ∧
      (takeTakeSnapshot k s).freeCount = s.freeCount ∧
      (takeTakeSnapshot k s).pending = s.pending ∧
      (takeTakeSnapshot k s).nvs.array = s.nvs.array ∧
      (takeTakeSnapshot k s).nvs.active = s.nvs.active ∧
      (takeTakeSnapshot k s).nvs.pulse = s.nvs.pulse ∧
      (takeTakeSnapshot k s).nvs.locked = s.nvs.locked ∧
      (takeTakeSnapshot k s).nvs.loadControl = s.nvs.loadControl ∧
      (takeTakeSnapshot k s).lnk.port = s.lnk.port ∧
      (takeTakeSnapshot k s).lnk.discard = s.lnk.discard ∧
      (takeTakeSnapshot k s).lnk.causeEcho = s.lnk.causeEcho ∧
      (takeTakeSnapshot k s).lnk.gaugeEcho = s.lnk.gaugeEcho ∧
      (takeTakeSnapshot k s).lnk.textEcho = s.lnk.textEcho := by
  simp [takeTakeSnapshot]

@[simp] theorem takeSaveSettings_frame (k : Fin 8) (s : State) :
    (takeSaveSettings k s).now = s.now ∧
      (takeSaveSettings k s).psc = s.psc ∧
      (takeSaveSettings k s).spd = s.spd ∧
      (takeSaveSettings k s).gau = s.gau ∧
      (takeSaveSettings k s).tlr = s.tlr ∧
      (takeSaveSettings k s).dtu = s.dtu ∧
      (takeSaveSettings k s).sdu = s.sdu ∧
      (takeSaveSettings k s).host = s.host ∧
      (takeSaveSettings k s).freeCount = s.freeCount ∧
      (takeSaveSettings k s).pending = s.pending ∧
      (takeSaveSettings k s).nvs.array = s.nvs.array ∧
      (takeSaveSettings k s).nvs.active = s.nvs.active ∧
      (takeSaveSettings k s).nvs.pulse = s.nvs.pulse ∧
      (takeSaveSettings k s).nvs.locked = s.nvs.locked ∧
      (takeSaveSettings k s).nvs.loadControl = s.nvs.loadControl ∧
      (takeSaveSettings k s).lnk.port = s.lnk.port ∧
      (takeSaveSettings k s).lnk.discard = s.lnk.discard ∧
      (takeSaveSettings k s).lnk.causeEcho = s.lnk.causeEcho ∧
      (takeSaveSettings k s).lnk.gaugeEcho = s.lnk.gaugeEcho ∧
      (takeSaveSettings k s).lnk.textEcho = s.lnk.textEcho := by
  simp only [takeSaveSettings]
  repeat' split
  all_goals simp

@[simp] theorem calOrder_frame (k : Fin 8) (p : Progress) (c : CalContent) (s : State) :
    (calOrder k p c s).now = s.now ∧
      (calOrder k p c s).psc = s.psc ∧
      (calOrder k p c s).spd = s.spd ∧
      (calOrder k p c s).gau = s.gau ∧
      (calOrder k p c s).tlr = s.tlr ∧
      (calOrder k p c s).dtu = s.dtu ∧
      (calOrder k p c s).sdu = s.sdu ∧
      (calOrder k p c s).host = s.host ∧
      (calOrder k p c s).freeCount = s.freeCount ∧
      (calOrder k p c s).pending = s.pending ∧
      (calOrder k p c s).nvs.array = s.nvs.array ∧
      (calOrder k p c s).nvs.active = s.nvs.active ∧
      (calOrder k p c s).nvs.pulse = s.nvs.pulse ∧
      (calOrder k p c s).nvs.locked = s.nvs.locked ∧
      (calOrder k p c s).nvs.loadControl = s.nvs.loadControl ∧
      (calOrder k p c s).lnk.port = s.lnk.port ∧
      (calOrder k p c s).lnk.discard = s.lnk.discard ∧
      (calOrder k p c s).lnk.causeEcho = s.lnk.causeEcho ∧
      (calOrder k p c s).lnk.gaugeEcho = s.lnk.gaugeEcho ∧
      (calOrder k p c s).lnk.textEcho = s.lnk.textEcho := by
  simp only [calOrder]
  repeat' split
  all_goals simp

@[simp] theorem takeCalibrate_frame (k : Fin 8) (p : Nat) (s : State) :
    (takeCalibrate k p s).now = s.now ∧
      (takeCalibrate k p s).psc = s.psc ∧
      (takeCalibrate k p s).spd = s.spd ∧
      (takeCalibrate k p s).gau = s.gau ∧
      (takeCalibrate k p s).tlr = s.tlr ∧
      (takeCalibrate k p s).dtu = s.dtu ∧
      (takeCalibrate k p s).sdu = s.sdu ∧
      (takeCalibrate k p s).host = s.host ∧
      (takeCalibrate k p s).freeCount = s.freeCount ∧
      (takeCalibrate k p s).pending = s.pending ∧
      (takeCalibrate k p s).nvs.array = s.nvs.array ∧
      (takeCalibrate k p s).nvs.active = s.nvs.active ∧
      (takeCalibrate k p s).nvs.pulse = s.nvs.pulse ∧
      (takeCalibrate k p s).nvs.locked = s.nvs.locked ∧
      (takeCalibrate k p s).nvs.loadControl = s.nvs.loadControl ∧
      (takeCalibrate k p s).lnk.port = s.lnk.port ∧
      (takeCalibrate k p s).lnk.discard = s.lnk.discard ∧
      (takeCalibrate k p s).lnk.causeEcho = s.lnk.causeEcho ∧
      (takeCalibrate k p s).lnk.gaugeEcho = s.lnk.gaugeEcho ∧
      (takeCalibrate k p s).lnk.textEcho = s.lnk.textEcho := by
  simp only [takeCalibrate]
  repeat' split
  all_goals simp

@[simp] theorem takePresetOdometer_frame (k : Fin 8) (n : Nat) (s : State) :
    (takePresetOdometer k n s).now = s.now ∧
      (takePresetOdometer k n s).psc = s.psc ∧
      (takePresetOdometer k n s).spd = s.spd ∧
      (takePresetOdometer k n s).gau = s.gau ∧
      (takePresetOdometer k n s).ttu = s.ttu ∧
      (takePresetOdometer k n s).tlr = s.tlr ∧
      (takePresetOdometer k n s).dtu = s.dtu ∧
      (takePresetOdometer k n s).sdu = s.sdu ∧
      (takePresetOdometer k n s).nvs = s.nvs ∧
      (takePresetOdometer k n s).host = s.host ∧
      (takePresetOdometer k n s).freeCount = s.freeCount ∧
      (takePresetOdometer k n s).pending = s.pending ∧
      (takePresetOdometer k n s).lnk.port = s.lnk.port ∧
      (takePresetOdometer k n s).lnk.discard = s.lnk.discard ∧
      (takePresetOdometer k n s).lnk.causeEcho = s.lnk.causeEcho ∧
      (takePresetOdometer k n s).lnk.gaugeEcho = s.lnk.gaugeEcho ∧
      (takePresetOdometer k n s).lnk.textEcho = s.lnk.textEcho ∧
      (takePresetOdometer k n s).lnk.journal = s.lnk.journal ∧
      (takePresetOdometer k n s).lnk.cursor = s.lnk.cursor ∧
      (takePresetOdometer k n s).lnk.postCounter = s.lnk.postCounter ∧
      (takePresetOdometer k n s).lnk.backlog = s.lnk.backlog := by
  simp only [takePresetOdometer]
  repeat' split
  all_goals simp

@[simp] theorem takeLockCalibration_frame (k : Fin 8) (s : State) :
    (takeLockCalibration k s).now = s.now ∧
      (takeLockCalibration k s).psc = s.psc ∧
      (takeLockCalibration k s).spd = s.spd ∧
      (takeLockCalibration k s).gau = s.gau ∧
      (takeLockCalibration k s).tlr = s.tlr ∧
      (takeLockCalibration k s).dtu = s.dtu ∧
      (takeLockCalibration k s).sdu = s.sdu ∧
      (takeLockCalibration k s).host = s.host ∧
      (takeLockCalibration k s).freeCount = s.freeCount ∧
      (takeLockCalibration k s).pending = s.pending ∧
      (takeLockCalibration k s).nvs.array = s.nvs.array ∧
      (takeLockCalibration k s).nvs.active = s.nvs.active ∧
      (takeLockCalibration k s).nvs.pulse = s.nvs.pulse ∧
      (takeLockCalibration k s).nvs.locked = s.nvs.locked ∧
      (takeLockCalibration k s).nvs.loadControl = s.nvs.loadControl ∧
      (takeLockCalibration k s).lnk.port = s.lnk.port ∧
      (takeLockCalibration k s).lnk.discard = s.lnk.discard ∧
      (takeLockCalibration k s).lnk.causeEcho = s.lnk.causeEcho ∧
      (takeLockCalibration k s).lnk.gaugeEcho = s.lnk.gaugeEcho ∧
      (takeLockCalibration k s).lnk.textEcho = s.lnk.textEcho := by
  simp [takeLockCalibration]

@[simp] theorem takeOrder_frame (k : Fin 8) (s : State) :
    (takeOrder k s).now = s.now ∧
      (takeOrder k s).psc = s.psc ∧
      (takeOrder k s).tlr = s.tlr ∧
      (takeOrder k s).sdu = s.sdu ∧
      (takeOrder k s).host = s.host ∧
      (takeOrder k s).freeCount = s.freeCount ∧
      (takeOrder k s).pending = s.pending ∧
      (takeOrder k s).nvs.array = s.nvs.array ∧
      (takeOrder k s).nvs.active = s.nvs.active ∧
      (takeOrder k s).nvs.pulse = s.nvs.pulse ∧
      (takeOrder k s).nvs.locked = s.nvs.locked ∧
      (takeOrder k s).nvs.loadControl = s.nvs.loadControl ∧
      (takeOrder k s).lnk.port = s.lnk.port ∧
      (takeOrder k s).lnk.discard = s.lnk.discard ∧
      (takeOrder k s).lnk.causeEcho = s.lnk.causeEcho ∧
      (takeOrder k s).lnk.gaugeEcho = s.lnk.gaugeEcho ∧
      (takeOrder k s).lnk.textEcho = s.lnk.textEcho := by
  unfold takeOrder
  dsimp only
  split <;> simp

@[simp] theorem applyPreset_frame (k : Fin 8) (s : State) :
    (applyPreset k s).now = s.now ∧
      (applyPreset k s).psc = s.psc ∧
      (applyPreset k s).gau = s.gau ∧
      (applyPreset k s).tlr = s.tlr ∧
      (applyPreset k s).dtu = s.dtu ∧
      (applyPreset k s).sdu = s.sdu ∧
      (applyPreset k s).host = s.host ∧
      (applyPreset k s).freeCount = s.freeCount ∧
      (applyPreset k s).pending = s.pending ∧
      (applyPreset k s).nvs.array = s.nvs.array ∧
      (applyPreset k s).nvs.active = s.nvs.active ∧
      (applyPreset k s).nvs.pulse = s.nvs.pulse ∧
      (applyPreset k s).nvs.locked = s.nvs.locked ∧
      (applyPreset k s).nvs.loadControl = s.nvs.loadControl ∧
      (applyPreset k s).lnk.port = s.lnk.port ∧
      (applyPreset k s).lnk.discard = s.lnk.discard ∧
      (applyPreset k s).lnk.causeEcho = s.lnk.causeEcho ∧
      (applyPreset k s).lnk.gaugeEcho = s.lnk.gaugeEcho ∧
      (applyPreset k s).lnk.textEcho = s.lnk.textEcho := by
  simp only [applyPreset]
  repeat' split
  all_goals simp

@[simp] theorem takeAt_frame (a : Nat) (s : State) :
    (takeAt a s).now = s.now ∧
      (takeAt a s).psc = s.psc ∧
      (takeAt a s).tlr = s.tlr ∧
      (takeAt a s).host = s.host ∧
      (takeAt a s).freeCount = s.freeCount ∧
      (takeAt a s).pending = s.pending ∧
      (takeAt a s).nvs.array = s.nvs.array ∧
      (takeAt a s).nvs.active = s.nvs.active ∧
      (takeAt a s).nvs.pulse = s.nvs.pulse ∧
      (takeAt a s).nvs.locked = s.nvs.locked ∧
      (takeAt a s).nvs.loadControl = s.nvs.loadControl ∧
      (takeAt a s).lnk.port = s.lnk.port ∧
      (takeAt a s).lnk.discard = s.lnk.discard := by
  simp only [takeAt]
  repeat' split
  all_goals simp

/-- The takes of one commit. -/
@[simp] theorem takes_frame (l : List Nat) (s : State) :
    (l.foldl (fun s a => takeAt a s) s).now = s.now ∧
      (l.foldl (fun s a => takeAt a s) s).psc = s.psc ∧
      (l.foldl (fun s a => takeAt a s) s).tlr = s.tlr ∧
      (l.foldl (fun s a => takeAt a s) s).host = s.host ∧
      (l.foldl (fun s a => takeAt a s) s).freeCount = s.freeCount ∧
      (l.foldl (fun s a => takeAt a s) s).pending = s.pending ∧
      (l.foldl (fun s a => takeAt a s) s).nvs.array = s.nvs.array ∧
      (l.foldl (fun s a => takeAt a s) s).nvs.active = s.nvs.active ∧
      (l.foldl (fun s a => takeAt a s) s).nvs.pulse = s.nvs.pulse ∧
      (l.foldl (fun s a => takeAt a s) s).nvs.locked = s.nvs.locked ∧
      (l.foldl (fun s a => takeAt a s) s).nvs.loadControl = s.nvs.loadControl ∧
      (l.foldl (fun s a => takeAt a s) s).lnk.port = s.lnk.port ∧
      (l.foldl (fun s a => takeAt a s) s).lnk.discard = s.lnk.discard :=
  ⟨foldl_keeps (fun s => s.now) _ (fun s a => by simp) _ _,
    foldl_keeps (fun s => s.psc) _ (fun s a => by simp) _ _,
    foldl_keeps (fun s => s.tlr) _ (fun s a => by simp) _ _,
    foldl_keeps (fun s => s.host) _ (fun s a => by simp) _ _,
    foldl_keeps (fun s => s.freeCount) _ (fun s a => by simp) _ _,
    foldl_keeps (fun s => s.pending) _ (fun s a => by simp) _ _,
    foldl_keeps (fun s => s.nvs.array) _ (fun s a => by simp) _ _,
    foldl_keeps (fun s => s.nvs.active) _ (fun s a => by simp) _ _,
    foldl_keeps (fun s => s.nvs.pulse) _ (fun s a => by simp) _ _,
    foldl_keeps (fun s => s.nvs.locked) _ (fun s a => by simp) _ _,
    foldl_keeps (fun s => s.nvs.loadControl) _ (fun s a => by simp) _ _,
    foldl_keeps (fun s => s.lnk.port) _ (fun s a => by simp) _ _,
    foldl_keeps (fun s => s.lnk.discard) _ (fun s a => by simp) _ _⟩

@[simp] theorem State_setPort_frame (p : Port) (s : State) :
    (s.setPort p).now = s.now ∧
      (s.setPort p).psc = s.psc ∧
      (s.setPort p).spd = s.spd ∧
      (s.setPort p).gau = s.gau ∧
      (s.setPort p).ttu = s.ttu ∧
      (s.setPort p).tlr = s.tlr ∧
      (s.setPort p).dtu = s.dtu ∧
      (s.setPort p).sdu = s.sdu ∧
      (s.setPort p).nvs = s.nvs ∧
      (s.setPort p).host = s.host ∧
      (s.setPort p).freeCount = s.freeCount ∧
      (s.setPort p).pending = s.pending ∧
      (s.setPort p).lnk.discard = s.lnk.discard ∧
      (s.setPort p).lnk.causeEcho = s.lnk.causeEcho ∧
      (s.setPort p).lnk.gaugeEcho = s.lnk.gaugeEcho ∧
      (s.setPort p).lnk.textEcho = s.lnk.textEcho ∧
      (s.setPort p).lnk.orders = s.lnk.orders ∧
      (s.setPort p).lnk.journal = s.lnk.journal ∧
      (s.setPort p).lnk.cursor = s.lnk.cursor ∧
      (s.setPort p).lnk.postCounter = s.lnk.postCounter ∧
      (s.setPort p).lnk.backlog = s.lnk.backlog := by
  exact ⟨rfl, rfl, rfl, rfl, rfl, rfl, rfl, rfl, rfl, rfl, rfl, rfl, rfl, rfl, rfl, rfl, rfl, rfl, rfl, rfl, rfl⟩

@[simp] theorem land_frame (xs : List (Nat × Byte)) (s : State) :
    (land xs s).now = s.now ∧
      (land xs s).psc = s.psc ∧
      (land xs s).spd = s.spd ∧
      (land xs s).gau = s.gau ∧
      (land xs s).ttu = s.ttu ∧
      (land xs s).tlr = s.tlr ∧
      (land xs s).dtu = s.dtu ∧
      (land xs s).sdu = s.sdu ∧
      (land xs s).nvs = s.nvs ∧
      (land xs s).freeCount = s.freeCount ∧
      (land xs s).pending = s.pending ∧
      (land xs s).lnk = s.lnk := by
  simp [land]

@[simp] theorem drainIfFreed_frame (b : State) (s : State) :
    (drainIfFreed b s).now = s.now ∧
      (drainIfFreed b s).psc = s.psc ∧
      (drainIfFreed b s).spd = s.spd ∧
      (drainIfFreed b s).gau = s.gau ∧
      (drainIfFreed b s).ttu = s.ttu ∧
      (drainIfFreed b s).tlr = s.tlr ∧
      (drainIfFreed b s).dtu = s.dtu ∧
      (drainIfFreed b s).sdu = s.sdu ∧
      (drainIfFreed b s).nvs = s.nvs ∧
      (drainIfFreed b s).host = s.host ∧
      (drainIfFreed b s).freeCount = s.freeCount ∧
      (drainIfFreed b s).pending = s.pending ∧
      (drainIfFreed b s).lnk.port = s.lnk.port ∧
      (drainIfFreed b s).lnk.discard = s.lnk.discard ∧
      (drainIfFreed b s).lnk.causeEcho = s.lnk.causeEcho ∧
      (drainIfFreed b s).lnk.gaugeEcho = s.lnk.gaugeEcho ∧
      (drainIfFreed b s).lnk.textEcho = s.lnk.textEcho ∧
      (drainIfFreed b s).lnk.orders = s.lnk.orders := by
  simp only [drainIfFreed]
  repeat' split
  all_goals simp

@[simp] theorem commitWrite_frame (l : List Nat) (xs : List (Nat × Byte)) (s : State) :
    (commitWrite l xs s).now = s.now ∧
      (commitWrite l xs s).psc = s.psc ∧
      (commitWrite l xs s).tlr = s.tlr ∧
      (commitWrite l xs s).freeCount = s.freeCount ∧
      (commitWrite l xs s).pending = s.pending ∧
      (commitWrite l xs s).nvs.array = s.nvs.array ∧
      (commitWrite l xs s).nvs.active = s.nvs.active ∧
      (commitWrite l xs s).nvs.pulse = s.nvs.pulse ∧
      (commitWrite l xs s).nvs.locked = s.nvs.locked ∧
      (commitWrite l xs s).nvs.loadControl = s.nvs.loadControl ∧
      (commitWrite l xs s).lnk.port = s.lnk.port := by
  simp [commitWrite]

@[simp] theorem endWrite_frame (l : List Nat) (b : Bool) (s : State) :
    (endWrite l b s).now = s.now ∧
      (endWrite l b s).psc = s.psc ∧
      (endWrite l b s).tlr = s.tlr ∧
      (endWrite l b s).freeCount = s.freeCount ∧
      (endWrite l b s).pending = s.pending ∧
      (endWrite l b s).nvs.array = s.nvs.array ∧
      (endWrite l b s).nvs.active = s.nvs.active ∧
      (endWrite l b s).nvs.pulse = s.nvs.pulse ∧
      (endWrite l b s).nvs.locked = s.nvs.locked ∧
      (endWrite l b s).nvs.loadControl = s.nvs.loadControl ∧
      (endWrite l b s).lnk.port = s.lnk.port := by
  simp only [endWrite]
  repeat' split
  all_goals simp

@[simp] theorem csFall_frame (s : State) :
    (csFall s).now = s.now ∧
      (csFall s).psc = s.psc ∧
      (csFall s).spd = s.spd ∧
      (csFall s).gau = s.gau ∧
      (csFall s).ttu = s.ttu ∧
      (csFall s).tlr = s.tlr ∧
      (csFall s).dtu = s.dtu ∧
      (csFall s).sdu = s.sdu ∧
      (csFall s).nvs = s.nvs ∧
      (csFall s).host = s.host ∧
      (csFall s).freeCount = s.freeCount ∧
      (csFall s).pending = s.pending ∧
      (csFall s).lnk.discard = s.lnk.discard ∧
      (csFall s).lnk.causeEcho = s.lnk.causeEcho ∧
      (csFall s).lnk.gaugeEcho = s.lnk.gaugeEcho ∧
      (csFall s).lnk.textEcho = s.lnk.textEcho ∧
      (csFall s).lnk.orders = s.lnk.orders ∧
      (csFall s).lnk.journal = s.lnk.journal ∧
      (csFall s).lnk.cursor = s.lnk.cursor ∧
      (csFall s).lnk.postCounter = s.lnk.postCounter ∧
      (csFall s).lnk.backlog = s.lnk.backlog := by
  simp [csFall]

@[simp] theorem csRise_frame (l : List Nat) (b : Nat) (s : State) :
    (csRise l b s).now = s.now ∧
      (csRise l b s).psc = s.psc ∧
      (csRise l b s).tlr = s.tlr ∧
      (csRise l b s).freeCount = s.freeCount ∧
      (csRise l b s).pending = s.pending ∧
      (csRise l b s).nvs.array = s.nvs.array ∧
      (csRise l b s).nvs.active = s.nvs.active ∧
      (csRise l b s).nvs.pulse = s.nvs.pulse ∧
      (csRise l b s).nvs.locked = s.nvs.locked ∧
      (csRise l b s).nvs.loadControl = s.nvs.loadControl := by
  simp only [csRise]
  repeat' split
  all_goals simp

@[simp] theorem readByte_frame (s : State) :
    (readByte s).now = s.now ∧
      (readByte s).psc = s.psc ∧
      (readByte s).spd = s.spd ∧
      (readByte s).gau = s.gau ∧
      (readByte s).ttu = s.ttu ∧
      (readByte s).tlr = s.tlr ∧
      (readByte s).dtu = s.dtu ∧
      (readByte s).sdu = s.sdu ∧
      (readByte s).nvs = s.nvs ∧
      (readByte s).host = s.host ∧
      (readByte s).freeCount = s.freeCount ∧
      (readByte s).pending = s.pending ∧
      (readByte s).lnk.discard = s.lnk.discard ∧
      (readByte s).lnk.causeEcho = s.lnk.causeEcho ∧
      (readByte s).lnk.gaugeEcho = s.lnk.gaugeEcho ∧
      (readByte s).lnk.textEcho = s.lnk.textEcho ∧
      (readByte s).lnk.orders = s.lnk.orders ∧
      (readByte s).lnk.journal = s.lnk.journal ∧
      (readByte s).lnk.cursor = s.lnk.cursor ∧
      (readByte s).lnk.postCounter = s.lnk.postCounter ∧
      (readByte s).lnk.backlog = s.lnk.backlog := by
  simp only [readByte]
  repeat' split
  all_goals simp

@[simp] theorem clockByte_frame (b : Byte) (s : State) :
    (clockByte s b).now = s.now ∧
      (clockByte s b).psc = s.psc ∧
      (clockByte s b).spd = s.spd ∧
      (clockByte s b).gau = s.gau ∧
      (clockByte s b).ttu = s.ttu ∧
      (clockByte s b).tlr = s.tlr ∧
      (clockByte s b).dtu = s.dtu ∧
      (clockByte s b).sdu = s.sdu ∧
      (clockByte s b).nvs = s.nvs ∧
      (clockByte s b).host = s.host ∧
      (clockByte s b).freeCount = s.freeCount ∧
      (clockByte s b).pending = s.pending ∧
      (clockByte s b).lnk.discard = s.lnk.discard ∧
      (clockByte s b).lnk.causeEcho = s.lnk.causeEcho ∧
      (clockByte s b).lnk.gaugeEcho = s.lnk.gaugeEcho ∧
      (clockByte s b).lnk.textEcho = s.lnk.textEcho ∧
      (clockByte s b).lnk.orders = s.lnk.orders ∧
      (clockByte s b).lnk.journal = s.lnk.journal ∧
      (clockByte s b).lnk.cursor = s.lnk.cursor ∧
      (clockByte s b).lnk.postCounter = s.lnk.postCounter ∧
      (clockByte s b).lnk.backlog = s.lnk.backlog := by
  simp only [clockByte]
  repeat' split
  all_goals simp

/-- The bytes of one piece of a transaction. -/
@[simp] theorem clockBytes_frame (l : List Byte) (s : State) :
    (l.foldl clockByte s).now = s.now ∧
      (l.foldl clockByte s).psc = s.psc ∧
      (l.foldl clockByte s).spd = s.spd ∧
      (l.foldl clockByte s).gau = s.gau ∧
      (l.foldl clockByte s).ttu = s.ttu ∧
      (l.foldl clockByte s).tlr = s.tlr ∧
      (l.foldl clockByte s).dtu = s.dtu ∧
      (l.foldl clockByte s).sdu = s.sdu ∧
      (l.foldl clockByte s).nvs = s.nvs ∧
      (l.foldl clockByte s).host = s.host ∧
      (l.foldl clockByte s).freeCount = s.freeCount ∧
      (l.foldl clockByte s).pending = s.pending ∧
      (l.foldl clockByte s).lnk.discard = s.lnk.discard ∧
      (l.foldl clockByte s).lnk.causeEcho = s.lnk.causeEcho ∧
      (l.foldl clockByte s).lnk.gaugeEcho = s.lnk.gaugeEcho ∧
      (l.foldl clockByte s).lnk.textEcho = s.lnk.textEcho ∧
      (l.foldl clockByte s).lnk.orders = s.lnk.orders ∧
      (l.foldl clockByte s).lnk.journal = s.lnk.journal ∧
      (l.foldl clockByte s).lnk.cursor = s.lnk.cursor ∧
      (l.foldl clockByte s).lnk.postCounter = s.lnk.postCounter ∧
      (l.foldl clockByte s).lnk.backlog = s.lnk.backlog :=
  ⟨foldl_keeps (fun s => s.now) _ (fun s a => by simp) _ _,
    foldl_keeps (fun s => s.psc) _ (fun s a => by simp) _ _,
    foldl_keeps (fun s => s.spd) _ (fun s a => by simp) _ _,
    foldl_keeps (fun s => s.gau) _ (fun s a => by simp) _ _,
    foldl_keeps (fun s => s.ttu) _ (fun s a => by simp) _ _,
    foldl_keeps (fun s => s.tlr) _ (fun s a => by simp) _ _,
    foldl_keeps (fun s => s.dtu) _ (fun s a => by simp) _ _,
    foldl_keeps (fun s => s.sdu) _ (fun s a => by simp) _ _,
    foldl_keeps (fun s => s.nvs) _ (fun s a => by simp) _ _,
    foldl_keeps (fun s => s.host) _ (fun s a => by simp) _ _,
    foldl_keeps (fun s => s.freeCount) _ (fun s a => by simp) _ _,
    foldl_keeps (fun s => s.pending) _ (fun s a => by simp) _ _,
    foldl_keeps (fun s => s.lnk.discard) _ (fun s a => by simp) _ _,
    foldl_keeps (fun s => s.lnk.causeEcho) _ (fun s a => by simp) _ _,
    foldl_keeps (fun s => s.lnk.gaugeEcho) _ (fun s a => by simp) _ _,
    foldl_keeps (fun s => s.lnk.textEcho) _ (fun s a => by simp) _ _,
    foldl_keeps (fun s => s.lnk.orders) _ (fun s a => by simp) _ _,
    foldl_keeps (fun s => s.lnk.journal) _ (fun s a => by simp) _ _,
    foldl_keeps (fun s => s.lnk.cursor) _ (fun s a => by simp) _ _,
    foldl_keeps (fun s => s.lnk.postCounter) _ (fun s a => by simp) _ _,
    foldl_keeps (fun s => s.lnk.backlog) _ (fun s a => by simp) _ _⟩

@[simp] theorem endPiece_frame (x : Xfer) (s : State) :
    (endPiece x s).now = s.now ∧
      (endPiece x s).psc = s.psc ∧
      (endPiece x s).tlr = s.tlr ∧
      (endPiece x s).freeCount = s.freeCount ∧
      (endPiece x s).pending = s.pending ∧
      (endPiece x s).nvs.array = s.nvs.array ∧
      (endPiece x s).nvs.active = s.nvs.active ∧
      (endPiece x s).nvs.pulse = s.nvs.pulse ∧
      (endPiece x s).nvs.locked = s.nvs.locked ∧
      (endPiece x s).nvs.loadControl = s.nvs.loadControl := by
  simp only [endPiece]
  repeat' split
  all_goals simp

@[simp] theorem transfer_frame (k : LinkCommand) (b : Byte) (x : Xfer) (s : State) :
    (transfer k b x s).now = s.now ∧
      (transfer k b x s).psc = s.psc ∧
      (transfer k b x s).tlr = s.tlr ∧
      (transfer k b x s).freeCount = s.freeCount ∧
      (transfer k b x s).pending = s.pending ∧
      (transfer k b x s).nvs.array = s.nvs.array ∧
      (transfer k b x s).nvs.active = s.nvs.active ∧
      (transfer k b x s).nvs.pulse = s.nvs.pulse ∧
      (transfer k b x s).nvs.locked = s.nvs.locked ∧
      (transfer k b x s).nvs.loadControl = s.nvs.loadControl := by
  simp only [transfer]
  repeat' split
  all_goals simp

/-! ### Reset -/

/-- What is left of a state that a reset loses (R193). -/
@[simp] theorem lostState_frame (s : State) :
    (lostState s).now = s.now ∧ (lostState s).psc = Psc.reset ∧ (lostState s).spd = Spd.reset ∧
      (lostState s).gau = Gau.reset ∧ (lostState s).ttu = Ttu.reset ∧ (lostState s).tlr = Tlr.reset ∧
      (lostState s).dtu = Dtu.reset ∧ (lostState s).sdu = Sdu.reset ∧ (lostState s).nvs = Nvs.reset s.nvs.array s.nvs.calCut ∧
      (lostState s).lnk = Lnk.reset false ∧ (lostState s).host = [] ∧ (lostState s).freeCount = s.freeCount ∧
      (lostState s).pending = s.pending := by
  simp [lostState, State.reset]

/-- A further source of a reset that is held changes the reset cause alone. -/
theorem beginReset_of_held {source : ResetSource} {s : State} (h : s.psc.held = true) :
    beginReset source s = s.setPsc { s.psc with bySupply := s.psc.bySupply || source == .supply } := by
  simp [beginReset, h]

/-- A reset that begins cuts the operation in flight off and loses every block's state. -/
theorem beginReset_of_awake {source : ResetSource} {s : State} (h : s.psc.held = false) :
    beginReset source s =
      (lostState (nvsCutOff s)).setPsc { Psc.reset with held := true, bySupply := source == .supply } := by
  simp [beginReset, h]

end Sys2Proof.Machine
end

