-- ==== Sys2Proof/Laws/Memory.lean ====
section
/-! SUPPORT. The laws of memory: what a read gives after a write, and that every memory operation keeps the canonical
form. -/

namespace Sys2Proof.Machine

/-- The canonical form, entry by entry. -/
theorem Memory.wf_cons (d : Byte) (a : Nat) (v : Byte) (m : Memory) :
    Memory.wf d ((a, v) :: m) = true ↔ v ≠ d ∧ (∀ c ∈ m, a < c.1) ∧ Memory.wf d m = true := by
  induction m generalizing a v with
  | nil => simp [Memory.wf]
  | cons c m ih =>
    obtain ⟨b, w⟩ := c
    rw [Memory.wf]
    simp only [Bool.and_eq_true, bne_iff_ne, ne_eq, decide_eq_true_eq, List.mem_cons, forall_eq_or_imp]
    constructor
    · rintro ⟨⟨hv, hab⟩, h⟩
      exact ⟨hv, ⟨hab, fun c hc => lt_trans hab (((ih b w).1 h).2.1 c hc)⟩, h⟩
    · rintro ⟨hv, ⟨hab, _⟩, h⟩
      exact ⟨⟨hv, hab⟩, h⟩

/-- An address below every entry reads as unlisted. -/
theorem Memory.read_below (d : Byte) {m : Memory} {a : Nat} (h : ∀ c ∈ m, a < c.1) : Memory.read d m a = d := by
  cases m with
  | nil => rfl
  | cons c m =>
    have hc := h c (List.mem_cons_self ..)
    rw [Memory.read]
    rw [if_neg (Nat.ne_of_lt hc), if_pos hc]

/-- The addresses that a write lists. -/
theorem Memory.mem_write {d : Byte} {m : Memory} {a : Nat} {v : Byte} {c : Host.Cell}
    (h : c ∈ Memory.write d m a v) : c.1 = a ∨ c ∈ m := by
  induction m with
  | nil =>
    rw [Memory.write] at h
    split at h <;> simp_all
  | cons e m ih =>
    obtain ⟨b, w⟩ := e
    rw [Memory.write] at h
    split at h
    · split at h
      · exact .inr (List.mem_cons_of_mem _ h)
      · rcases List.mem_cons.1 h with rfl | h
        · exact .inl rfl
        · exact .inr (List.mem_cons_of_mem _ h)
    · split at h
      · split at h
        · exact .inr h
        · rcases List.mem_cons.1 h with rfl | h
          · exact .inl rfl
          · exact .inr h
      · rcases List.mem_cons.1 h with rfl | h
        · exact .inr (List.mem_cons_self ..)
        · exact (ih h).imp id (List.mem_cons_of_mem _)

/-- A write keeps the canonical form. -/
theorem Memory.wf_write {d : Byte} {m : Memory} (a : Nat) (v : Byte) (h : Memory.wf d m = true) :
    Memory.wf d (Memory.write d m a v) = true := by
  induction m with
  | nil => rw [Memory.write]; split <;> simp_all [Memory.wf]
  | cons e m ih =>
    obtain ⟨b, w⟩ := e
    obtain ⟨hw, hb, hm⟩ := (Memory.wf_cons d b w m).1 h
    rw [Memory.write]
    split
    · subst_vars
      split
      · exact hm
      · exact (Memory.wf_cons ..).2 ⟨‹_›, hb, hm⟩
    · split
      · split
        · exact h
        · refine (Memory.wf_cons ..).2 ⟨‹_›, ?_, h⟩
          intro c hc
          rcases List.mem_cons.1 hc with rfl | hc
          · assumption
          · exact lt_trans ‹_› (hb c hc)
      · refine (Memory.wf_cons ..).2 ⟨hw, ?_, ih hm⟩
        intro c hc
        rcases Memory.mem_write hc with rfl | hc
        · omega
        · exact hb c hc

/-- Read after write: the written address gives the value, and every other address what it gave before. -/
theorem Memory.read_write {d : Byte} {m : Memory} (a : Nat) (v : Byte) (b : Nat) (h : Memory.wf d m = true) :
    Memory.read d (Memory.write d m a v) b = if b = a then v else Memory.read d m b := by
  induction m with
  | nil =>
    rw [Memory.write]
    split
    · subst_vars; simp [Memory.read]
    · simp only [Memory.read]
      split_ifs <;> rfl
  | cons e m ih =>
    obtain ⟨k, w⟩ := e
    obtain ⟨-, hk, hm⟩ := (Memory.wf_cons d k w m).1 h
    rw [Memory.write]
    split
    · subst_vars
      split
      · subst_vars
        by_cases hb : b = k
        · subst hb; simp [Memory.read_below _ hk]
        · rw [if_neg hb, Memory.read, if_neg hb]
          split
          · exact Memory.read_below _ fun c hc => lt_trans ‹_› (hk c hc)
          · rfl
      · simp only [Memory.read]
        split_ifs <;> rfl
    · split
      · split
        · subst_vars
          by_cases hb : b = a
          · subst hb
            rw [if_pos rfl, Memory.read, if_neg ‹_›, if_pos ‹_›]
          · rw [if_neg hb]
        · simp only [Memory.read]
          split_ifs <;> first | rfl | omega
      · rw [Memory.read, ih hm, Memory.read]
        split_ifs <;> first | rfl | omega

/-- A run of writes keeps the canonical form. -/
theorem Memory.wf_writeList {d : Byte} {m : Memory} (bs : List Byte) (a : Nat) (h : Memory.wf d m = true) :
    Memory.wf d (Memory.writeList d m a bs) = true := by
  induction bs generalizing a with
  | nil => exact h
  | cons b bs ih => exact Memory.wf_write _ _ (ih _)

/-- Read after a run of writes. -/
theorem Memory.read_writeList {d : Byte} {m : Memory} (bs : List Byte) (a b : Nat) (h : Memory.wf d m = true) :
    Memory.read d (Memory.writeList d m a bs) b =
      if a ≤ b ∧ b < a + bs.length then bs.getD (b - a) 0 else Memory.read d m b := by
  induction bs generalizing a with
  | nil =>
    rw [Memory.writeList, if_neg]
    simp
  | cons x bs ih =>
    rw [Memory.writeList, Memory.read_write _ _ _ (Memory.wf_writeList _ _ h), ih]
    by_cases hb : b = a
    · subst hb; simp
    · rw [if_neg hb]
      by_cases hr : a + 1 ≤ b ∧ b < a + 1 + bs.length
      · rw [if_pos hr, if_pos (by simp; omega)]
        obtain ⟨k, rfl⟩ := Nat.exists_eq_add_of_le hr.1
        simp [show a + 1 + k - a = k + 1 by omega]
      · rw [if_neg hr, if_neg (by simp; omega)]

/-- Writes taken one after another keep the canonical form. -/
theorem Memory.wf_foldl_write {d : Byte} (xs : List (Nat × Byte)) {m : Memory} (h : Memory.wf d m = true) :
    Memory.wf d (xs.foldl (fun m x => Memory.write d m x.1 x.2) m) = true := by
  induction xs generalizing m with
  | nil => exact h
  | cons x xs ih => exact ih (Memory.wf_write _ _ h)

/-- Read after writes taken one after another, at an address that none of them names. -/
theorem Memory.read_foldl_write {d : Byte} (xs : List (Nat × Byte)) {m : Memory} {b : Nat}
    (h : Memory.wf d m = true) (hb : ∀ x ∈ xs, x.1 ≠ b) :
    Memory.read d (xs.foldl (fun m x => Memory.write d m x.1 x.2) m) b = Memory.read d m b := by
  induction xs generalizing m with
  | nil => rfl
  | cons x xs ih =>
    rw [List.foldl_cons, ih (Memory.wf_write _ _ h) fun y hy => hb y (List.mem_cons_of_mem _ hy),
      Memory.read_write _ _ _ h, if_neg (Ne.symm (hb x (List.mem_cons_self ..)))]

/-- A forgotten run keeps the canonical form. -/
theorem Memory.wf_forget {d : Byte} {m : Memory} (lo k : Nat) (h : Memory.wf d m = true) :
    Memory.wf d (m.forget lo k) = true := by
  induction m with
  | nil => rfl
  | cons e m ih =>
    obtain ⟨b, w⟩ := e
    obtain ⟨hw, hb, hm⟩ := (Memory.wf_cons d b w m).1 h
    have hm' := ih hm
    simp only [Memory.forget] at hm' ⊢
    rw [List.filter_cons]
    split
    · exact (Memory.wf_cons ..).2 ⟨hw, fun c hc => hb c (List.mem_of_mem_filter hc), hm'⟩
    · exact hm'

/-- Read after a run was forgotten. -/
theorem Memory.read_forget {d : Byte} {m : Memory} (lo k b : Nat) (h : Memory.wf d m = true) :
    Memory.read d (m.forget lo k) b = if lo ≤ b ∧ b < lo + k then d else Memory.read d m b := by
  induction m with
  | nil => simp [Memory.forget, Memory.read]
  | cons e m ih =>
    obtain ⟨a, w⟩ := e
    obtain ⟨-, ha, hm⟩ := (Memory.wf_cons d a w m).1 h
    have ih := ih hm
    simp only [Memory.forget] at ih ⊢
    rw [List.filter_cons]
    by_cases hr : a < lo ∨ lo + k ≤ a
    · rw [if_pos (by simpa using hr), Memory.read, ih, Memory.read]
      split_ifs <;> first | rfl | omega
    · rw [if_neg (by simpa using hr), ih]
      by_cases hb : lo ≤ b ∧ b < lo + k
      · rw [if_pos hb, if_pos hb]
      · rw [if_neg hb, if_neg hb, Memory.read, if_neg (by omega)]
        split
        · exact Memory.read_below _ fun c hc => lt_trans ‹_› (ha c hc)
        · rfl

/-- The memories of the reset state have the canonical form. -/
theorem reset_memories : Memory.wf 0 State.reset.host = true ∧ Memory.wf 0xFF State.reset.nvs.array = true := ⟨rfl, rfl⟩

end Sys2Proof.Machine
end

