-- ==== Sys2Proof/Tests/Slice0.lean ====
section
/-! SUPPORT. Tests: the checks of WellFormed, worked cases of spec/ one step at a time, and for every statement about
states that meet hypotheses a witness (`wit_…`) that a concrete state meets them, at the ends of their ranges. -/

namespace Sys2Proof.Tests

-- One theorem after another: in the package as one text, many evaluations that wait for the kernel take a thread each.
set_option Elab.async false

open Sys2Proof.Machine

/-- The part in a power state, with IGN on in RUN, NVS active after LOADING, and these host-owned bytes written. -/
def part (p : Power) (host : Memory := []) : State :=
  { State.reset with
    psc := { Psc.reset with power := p, ign := decide (p = .proof ∨ p = .normal) }
    nvs := { Nvs.reset [] [] with active := decide (p ≠ .loading) }
    host := host }

/-- The part in NORMAL, every setting 00h. -/
def run : State := part .normal

/-- The state that a command answers. -/
def after (c : Instr) (s : State) : State :=
  match exec c s with
  | .next u => u
  | _ => s

/-- A transfer that begins a transaction and ends it on a byte boundary. -/
def whole (bytes : List Byte) : Xfer := ⟨true, bytes, some 0, []⟩

/-! ### The checks of WellFormed -/

theorem test_wf_transfer : (Instr.read 0 ⟨true, [], none, [0x100, 0x100]⟩).wf = false := by decide
theorem test_wf_empty_piece : (Instr.write 0 ⟨false, [], none, []⟩).wf = false := by decide
theorem test_wf_known_code : (Instr.unknownCommand 0 0x5C (whole [])).wf = false := by decide
theorem test_wf_time_frame : (Instr.timeFrame 0 0 1440 0).wf = false ∧ (Instr.timeFrame 0 0 0 60).wf = false := by decide
theorem test_wf_activity_frame :
    (Instr.activityFrame 0 0 3 0).wf = false ∧ (Instr.activityFrame 0 3 3 0).wf = false ∧
      (Instr.activityFrame 0 1 4 0).wf = false ∧ (Instr.activityFrame 0 1 3 1440).wf = false := by decide
theorem test_wf_card_frame :
    (Instr.cardFrame 0 ⟨3, 1, 0, 0, 0, 0, 0, 0⟩).wf = false ∧ (Instr.cardFrame 0 ⟨1, 2, 0, 0, 0, 0, 0, 0⟩).wf = false ∧
      (Instr.cardFrame 0 ⟨1, 1, 0, 0, 0, 0, 0, 2⟩).wf = false ∧ (Instr.cardFrame 0 ⟨1, 0, 0, 0, 0, 0, 0, 2⟩).wf = true := by
  decide
theorem test_wf_presence_frame : (Instr.presenceFrame 0 4 0 0).wf = false ∧ (Instr.presenceFrame 0 0 4 0).wf = false := by
  decide
theorem test_wf_step_event : (Instr.stepEvent 0 [1, 1]).wf = false := by decide
theorem test_wf_lamp_sample : (Instr.lampDiagnosticSample 0 [4, 4]).wf = false := by decide
theorem test_wf_order : (Instr.runEntry 0 [.gau, .gau]).wf = false := by decide

/-- The table gives no row any bits. -/
theorem test_decode_none : decodeTableWord 0 0 = none ∧ decodeTableWord 8 0x3A = none := by decide

/-! ### The machine -/

theorem wit_StepRunsTheFrontCommand : State.reset.pending = [] := by decide

/-- The part held in reset by the supply. -/
def heldPart : State := { run with psc := { run.psc with held := true } }

theorem wit_ResetCutsOffAndHolds_held : heldPart.psc.held = true ∧
    (∀ t pins, Instr.filterEvent 0 ≠ .reset t pins) ∧ ∀ t source, Instr.filterEvent 0 ≠ .resetBegin t source := by
  exact ⟨by decide, by simp, by simp⟩

/-- A program that began at instant 0. -/
def prog (kind : Kind) (addr : Nat) (bytes : List Byte) (endsAt : Nat) : Prog :=
  { kind := kind, slot := 0, addr := addr, bytes := bytes, startedAt := 0, endsAt := endsAt, failures := 0
    content := ⟨8000, false⟩ }

def flying (f : Flight) (s : State) : State := { s with nvs := { s.nvs with flight := f } }

/-- The ends of each clause of the cut-off: the word whose 60 µs end at this instant, and the first that still runs. -/
theorem wit_ResetCutsOffAndHolds_cut :
    (Awake run ∧ MemoriesCanonical run ∧ run.nvs.flight = .none) ∧
      (Awake (flying (.program (prog .odo 0x2000 (List.replicate 8 0) 120)) run) ∧
        3 < 4 * ((instant 60 run - 0) / 60) ∧ ¬4 < 4 * ((instant 60 run - 0) / 60) ∧
        ¬0 < 4 * ((instant 59 run - 0) / 60)) ∧
      (flying (.erase ⟨13, false, 0, 0, 40000⟩) run).nvs.flight = .erase ⟨13, false, 0, 0, 40000⟩ ∧
      ((flying (.suspended ⟨13, false, 0, 0, 40000⟩ (prog .odo 0x2000 (List.replicate 8 0) 120)) run).nvs.flight =
          .suspended ⟨13, false, 0, 0, 40000⟩ (prog .odo 0x2000 (List.replicate 8 0) 120) ∧
        0x2000 + 7 < 4096 * 13 ∧ 7 < (List.replicate 8 (0 : Byte)).length) := by
  unfold Awake MemoriesCanonical; decide

/-- A program cut off after 60 µs: one word is programmed, the next still blank. -/
theorem test_reset_cuts_a_program (s : State) (h : s = cutProgram (prog .odo 0x2000 (List.replicate 8 0x5A) 120) (tick 60 run)) :
    arrayByte s 0x2003 = 0x5A ∧ arrayByte s 0x2004 = 0xFF := by
  subst h; decide +kernel

/-- The part with every lamp on. -/
def lit : State :=
  { run with ttu := { run.ttu with lamps := Vector.replicate 48 ⟨true, true, .steady, 0, false, false⟩ } }

/-- A reset in RUN loses the blocks' state: no lamp sinks, and the part is held in LOADING. -/
theorem test_reset_begin :
    lampSink lit 7 = true ∧ lampSink (after (.resetBegin 5 .pin) lit) 7 = false ∧
      (after (.resetBegin 5 .pin) run).psc.power = .loading ∧ (after (.resetBegin 5 .pin) run).psc.held = true := by
  decide +kernel

theorem wit_ResetLeavesTheStatedValues : heldPart.psc.held = true := by decide

/-! ### The link -/

/-- A port with chip select low, in the data bytes of a command. -/
def open_ (c : LinkCommand) (address : Nat) : State :=
  { run with lnk := { run.lnk with port := { run.lnk.port with
      csLow := true, state := .data, command := some c, address := address, lineNumber := 511
      line := List.replicate 16 0 } } }

theorem wit_ReadShiftsOut :
    (Awake run ∧ run.lnk.port.csLow = false) ∧ (Awake (part .loading) ∧ (part .loading).lnk.port.csLow = false) ∧
      Awake (open_ .read 8191) ∧ (open_ .read 8191).lnk.port.csLow = true ∧
        (open_ .read 8191).lnk.port.command = some .read ∧ (open_ .read 8191).lnk.port.state = .data ∧
        (open_ .read 8191).lnk.port.address < 8192 ∧ (open_ .read 8191).lnk.port.line.length = 16 ∧
        8191 / 16 = (open_ .read 8191).lnk.port.lineNumber ∧ 8191 % 16 + 0 < 16 ∧ ¬8191 % 16 + 1 < 16 := by
  unfold Awake; decide

theorem wit_StatusShiftsOutTheLinkStatusByte :
    (Awake run ∧ run.lnk.port.csLow = false) ∧ Awake (open_ .status 0) ∧ (open_ .status 0).lnk.port.csLow = true ∧
      (open_ .status 0).lnk.port.command = some .status ∧ (open_ .status 0).lnk.port.state = .data := by
  unfold Awake; decide

/-- A port that waits for chip select after a reset. -/
def waiting : State := { run with lnk := { run.lnk with port := Port.reset true } }

theorem wit_UnknownCommandIsIgnored :
    (Awake run ∧ run.lnk.port.csLow = false ∧ (whole []).fall = true ∧
      (0x72 : Byte) ≠ 0x3A ∧ (0x72 : Byte) ≠ 0x5C ∧ (0x72 : Byte) ≠ 0x71) ∧
      (Awake waiting ∧ waiting.lnk.port.state = .waitCs) ∧ run.lnk.port.state ≠ .waitCs := by
  unfold Awake; decide

/-- One witness for each test, in their order: 1 to 7 clocks over or no byte; 65 data bytes; LOADING; the first unassigned
byte after the text records; the first part-owned byte of an order slot. -/
theorem wit_WriteIsDiscardedForTheFirstFailedTest :
    (Awake run ∧ run.lnk.port.csLow = false) ∧ ((7 : Fin 8) ≠ 0 ∨ ([] : List Byte) = []) ∧
      64 < (List.replicate 65 (0 : Byte)).length ∧
      ((List.replicate 64 (0 : Byte)).length ≤ 64 ∧ (part .loading).psc.power = .loading) ∧
      (run.psc.power ≠ .loading ∧ ownerOf ((0xC1 + 1) % 8192) = .unassigned ∧ ownerOf ((0xC1 + 0) % 8192) ≠ .unassigned) ∧
      ((∀ i, i < 2 → ownerOf ((0x4B + i) % 8192) ≠ .unassigned) ∧ Protected run 2 0x4C 0 ∧ ¬Protected run 2 0x4B 0) := by
  unfold Awake Protected; decide

/-- A WRITE to C1h that is open with n data bytes. -/
def writing (n : Nat) (p : Power) : State := after (.write 0 ⟨true, [0xC1, 0] ++ List.replicate n 1, none, []⟩) (part p)

/-- A WRITE that is open with 64 data bytes and with 65, and one that waits for its second address byte. -/
theorem wit_WriteIsDiscardedForTheFirstFailedTest_open :
    Awake (writing 64 .loading) ∧ WriteOpen (writing 64 .loading) 0xC1 (List.replicate 64 1) ∧
      WriteOpen (writing 65 .normal) 0xC1 (List.replicate 65 1) ∧
      ∀ s : State, s = after (.write 0 ⟨true, [0xC1], none, []⟩) run → Awake s ∧ s.lnk.port.csLow = true ∧
        s.lnk.port.command = some .write ∧ s.lnk.port.state = .address ∧ s.lnk.port.writeCount = 0 ∧
        s.lnk.port.addressBytes = 1 := by
  unfold Awake WriteOpen
  simp only [forall_eq]
  decide +kernel

/-- A WRITE begun in LOADING is judged by the state at its rise, one of 65 bytes in two pieces fails LENGTH, and one without its
second address byte fails RAGGED. -/
theorem test_write_in_pieces :
    (after (.write 1 ⟨false, [], some 0, []⟩) { writing 1 .loading with psc := run.psc }).lnk.discard = .none ∧
      hostByte (after (.write 1 ⟨false, [], some 0, []⟩) { writing 1 .loading with psc := run.psc }) 0xC1 = 1 ∧
      (after (.write 1 ⟨false, [1], some 0, []⟩) (writing 64 .normal)).lnk.discard = .length ∧
      (after (.write 1 ⟨true, [0xC1], some 0, []⟩) run).lnk.discard = .ragged := by
  decide +kernel

/-- 64 bytes into the first gauge section. -/
theorem wit_WriteLands :
    (Awake run ∧ run.lnk.port.csLow = false ∧ run.psc.power ≠ .loading ∧ MemoriesCanonical run) ∧
      ∀ i, i < 64 → ownerOf ((0x440 + i) % 8192) ≠ .unassigned ∧
        ¬Protected run 64 ((0x440 + i) % 8192) ((List.replicate 64 (1 : Byte)).getD i 0) ∧ (0x440 + i) % 8192 < 0x1400 ∧
        (isStamp ((0x440 + i) % 8192) = true →
          (List.replicate 64 (1 : Byte)).getD i 0 = hostByte run ((0x440 + i) % 8192)) := by
  unfold Awake MemoriesCanonical Protected
  exact ⟨by decide, by decide +kernel⟩

/-- The same stamp again in an idle order slot. -/
theorem wit_WriteLands_stamp :
      ∀ i, i < 2 → ownerOf ((0x40 + i) % 8192) ≠ .unassigned ∧
        ¬Protected run 2 ((0x40 + i) % 8192) (([0, 9] : List Byte).getD i 0) ∧ (0x40 + i) % 8192 < 0x1400 ∧
        (isStamp ((0x40 + i) % 8192) = true → ([0, 9] : List Byte).getD i 0 = hostByte run ((0x40 + i) % 8192)) := by
  unfold Protected; decide +kernel

/-- 64 bytes over the last host records, and the last cause record with the first gauge record. -/
theorem wit_WriteLands_takes :
    (0xC0 + 256 * 1) % 8192 = 0x1C0 ∧ 0x100 ≤ 0x1C0 ∧ 0x1C0 + (List.replicate 64 (1 : Byte)).length ≤ 0x200 ∧
      (1 : Byte) ≠ hostByte run (0x100 + 4 * 31) ∧ (1 : Byte) ≠ hostByte run (0x1C0 + 16 * 3) := by
  decide +kernel

/-- One WRITE changes the stamps of cause record 31 and of gauge record 0; the takes in the other order give the same. -/
theorem test_write_takes :
    ∀ takes ∈ ([[], [0x180, 0x17C]] : List (List Nat)),
      (after (.write 0 ⟨true, [0x7C, 1, 1, 1, 2, 0, 5, 1, 9, 0], some 0, takes⟩) run).lnk.causeEcho[31] = 1 ∧
      (after (.write 0 ⟨true, [0x7C, 1, 1, 1, 2, 0, 5, 1, 9, 0], some 0, takes⟩) run).lnk.gaugeEcho[0] = 5 ∧
      ((after (.write 0 ⟨true, [0x7C, 1, 1, 1, 2, 0, 5, 1, 9, 0], some 0, takes⟩) run).channel 0).storedValue = 9 := by
  decide +kernel

/-- The worked case 'a full journal and its backlog' before its step 8. -/
def fullJournal : State :=
  { run with
    host := (List.range 32).map fun j => (0x1401 + 16 * j, 0x3B)
    lnk := { run.lnk with
      journal := Vector.ofFn fun j => ⟨0x3C, .card, 0, (969 + (j.val + 24) % 32) % 65536, 0, 0, []⟩
      cursor := 7, postCounter := 1000
      backlog := [⟨.lineError, 4, 0, 0, []⟩, ⟨.causeChange, 2, 0, 0, []⟩, ⟨.activity, 1, 0, 0, []⟩] } }

theorem wit_JournalFreeDrainsTheBacklog :
    (Awake run ∧ LinkFree run ∧ MemoriesCanonical run ∧ run.lnk.postCounter < 65536 ∧ slotFilled run 31 = false) ∧
      Awake fullJournal ∧ LinkFree fullJournal ∧ MemoriesCanonical fullJournal ∧ fullJournal.lnk.postCounter < 65536 ∧
        slotFilled fullJournal 7 = true ∧ 7 = cursorSlot fullJournal ∧ fullJournal.lnk.backlog ≠ [] ∧
        9 ≠ cursorSlot fullJournal := by
  unfold Awake LinkFree MemoriesCanonical; decide +kernel

/-- A record of a kind that the backlog holds in its second entry, one of a kind that it does not hold, and a free cursor. -/
theorem wit_JournalFreeDrainsTheBacklog_handed :
    slotFilled run (cursorSlot run) = false ∧ slotFilled fullJournal (cursorSlot fullJournal) = true ∧
      (∀ e ∈ fullJournal.lnk.backlog, e.kind ≠ .card) ∧
      fullJournal.lnk.backlog = [⟨.lineError, 4, 0, 0, []⟩] ++ ⟨.causeChange, 2, 0, 0, []⟩ :: [⟨.activity, 1, 0, 0, []⟩] ∧
      ∀ x ∈ [(⟨.lineError, 4, 0, 0, []⟩ : BacklogEntry)], x.kind ≠ .causeChange := by
  decide +kernel

/-- Its step 8: slot 7 takes LINE_ERROR with post mark 3Dh, sequence 1,000 and fold count 4; slot 8 is filled. -/
theorem test_journal_free_drains_to_a_filled_slot :
    (after (.journalFree 0 7) fullJournal).lnk.journal[7] = ⟨0x3D, .lineError, 4, 1000, 0, 0, []⟩ ∧
      (after (.journalFree 0 7) fullJournal).lnk.cursor = 8 ∧
      (after (.journalFree 0 7) fullJournal).lnk.backlog.length = 2 := by
  decide +kernel

/-! ### Takes -/

/-- The part in NORMAL with cause n in a state. -/
def withCause (n : Fin 53) (st : CauseState) (s : State) : State := s.setCause n { Cause.reset with state := st, cls := 1 }

theorem wit_HostCauseTake :
    (Awake run ∧ LinkFree run ∧ MemoriesCanonical run ∧ (1 : Byte) ≠ hostByte run (0x100 + 4 * 31)) ∧
      (inRun run = true ∧ (run.causeOf (hostCause 31)).state = .clear) ∧ inRun (part .standby) = false ∧
      ((withCause 31 .held run).causeOf (hostCause 31)).state = .held ∧
      ((withCause 31 .acked run).causeOf (hostCause 31)).state = .acked ∧
      clearedState (withCause 31 .acked run) (hostCause 31) ≠ .acked ∧ clearedState run (hostCause 31) = .clear := by
  unfold Awake LinkFree MemoriesCanonical; decide +kernel

/-- The worked case 'a WRITE and its take': stamp 07h, raise, tag 3, argument 2Ch; the urgency map's entry of tag 3 is 2. -/
theorem test_host_cause_take :
    (after (.hostCauseTake 0 12 0x07 1 3 0x2C) (part .normal [(0x743, 2)])).causeOf 12 =
        { state := .active, cls := 2, argument := 0x2C, dropped := false } ∧
      (after (.hostCauseTake 0 12 0x07 1 3 0x2C) (part .normal [(0x743, 2)])).lnk.causeEcho[12] = 0x07 ∧
      (after (.hostCauseTake 0 12 0x07 1 3 0x2C) (part .normal [(0x743, 2)])).lnk.journal[0].kind = .causeChange := by
  decide +kernel

/-- Channel 0 with the source HOST, freshness 100 ms and the warning mode BOTH. -/
def hostGauge (p : Power) : State := part p [(0x440, 2), (0x449, 3), (0x44C, 100), (0x44E, 10), (0x450, 20)]

theorem wit_GaugeDemandTake :
    (Awake run ∧ LinkFree run ∧ MemoriesCanonical run ∧ (1 : Byte) ≠ hostByte run (0x180 + 8 * 7) ∧
      gaugeSource run 7 ≠ .host) ∧
      (Awake (hostGauge .normal) ∧ LinkFree (hostGauge .normal) ∧ MemoriesCanonical (hostGauge .normal) ∧
        (1 : Byte) ≠ hostByte (hostGauge .normal) 0x180 ∧ gaugeSource (hostGauge .normal) 0 = .host ∧
        inRun (hostGauge .normal) = true ∧ freshness (hostGauge .normal) 0 = 100000 ∧
        warningMode (hostGauge .normal) 0 = 3 ∧ ((hostGauge .normal).channel 0).warning = false ∧
        ((hostGauge .normal).causeOf (warningCause 0)).state = .clear) ∧
      inRun (hostGauge .standby) = false := by
  unfold Awake LinkFree MemoriesCanonical; decide +kernel

/-- R44: below threshold L by one the warning sets, at it not. -/
theorem test_gauge_demand_take_warns :
    ((after (.gaugeDemandTake 0 0 1 0 9) (hostGauge .normal)).channel 0).warning = true ∧
      ((after (.gaugeDemandTake 0 0 1 0 10) (hostGauge .normal)).channel 0).warning = false := by
  decide +kernel

theorem wit_TextTake : Awake run ∧ LinkFree run ∧ MemoriesCanonical run ∧ (1 : Byte) ≠ hostByte run (0x1C0 + 16 * 3) := by
  unfold Awake LinkFree MemoriesCanonical; decide +kernel

/-! ### Orders -/

/-- Slot 7 is free for an order with stamp 1. -/
theorem wit_OrderTaken : OrderTaken 0 7 1 run := by
  unfold OrderTaken Awake LinkFree SlotFree MemoriesCanonical; decide +kernel

theorem wit_AcknowledgeOrder : (52#8).toNat ≤ 52 ∧ (255#8).toNat = 255 ∧ inRun run = true ∧ inRun (part .standby) = false := by
  decide

theorem wit_ResetTripOrder : (1#8).toNat ≤ 1 := by decide

/-- A trip reset and then the edge that completes a unit (R18). -/
theorem wit_ResetTripOrder_unit :
    Accepted 0 true (after (.resetTrip 0 7 1 1) { part .normal [(0x420, 3)] with spd := { Spd.reset with remainder := 7900 } }) ∧
      8000 ≤ (after (.resetTrip 0 7 1 1)
        { part .normal [(0x420, 3)] with spd := { Spd.reset with remainder := 7900 } }).spd.remainder + 100 := by
  unfold Accepted Awake; decide +kernel

/-- Channel c replaced. -/
def withChannel (c : Fin 8) (x : Channel) (s : State) : State := s.setChannel c x

theorem wit_RehomeOrder :
    (0x80 : Byte) ≠ 0 ∧ inRun run = true ∧ bit (0x80 : Byte) 7 = true ∧ bit (0x80 : Byte) 6 = false ∧
      (∀ d : Fin 8, bit (0x80 : Byte) d.val = true ↔ d = 7) ∧
      ((withChannel 7 { Channel.reset with state := .fault } run).channel 7).state = .fault := by
  decide

/-- Channels 0 and 7 in FAULT, both named. -/
theorem wit_RehomeOrder_several :
    ∀ c : Fin 8, c = 0 ∨ c = 7 → bit (0x81 : Byte) c.val = true ∧
      ((withChannel 0 { Channel.reset with state := .fault } (withChannel 7 { Channel.reset with state := .fault } run)).channel
        c).state = .fault := by
  decide

theorem wit_LampTestOrder :
    inNormal run = true ∧ 1 ≤ (1#8).toNat ∧ (10#8).toNat ≤ 10 ∧
      (Awake { run with ttu := { run.ttu with lampTest := some 5, blink := 7 } } ∧
        expired (instant 5 run) (some 5) = true ∧ expired (instant 4 run) (some 5) = false) := by
  unfold Awake; decide

theorem wit_SetTimeOrder : run.tlr.line ≠ .alive ∧ (1439#16).toNat ≤ 1439 ∧ (59#8).toNat ≤ 59 := by decide

/-- A settings image waits, or an erase is in flight, or nothing hinders the store. -/
theorem wit_SnapshotRequests :
    ({ run with nvs := { run.nvs with snap := some ⟨0, 0⟩ } }).nvs.snap.isSome = true ∧
      (run.nvs.snap = none ∧ (flying (.erase ⟨13, false, 0, 0, 40000⟩) run).nvs.flight ≠ .none) ∧
      (run.nvs.flight = .none ∧ run.nvs.active = true ∧ run.psc.low = false ∧ run.nvs.odo = none ∧ run.nvs.cal = none ∧
        isDue run (snapSector run.nvs.snapPtr) = false ∧
        Memory.blank run.nvs.array (snapAddr run.nvs.snapPtr) 256 = true) ∧
      (inStandby (part .standby) = true ∧ expired (instant 9 (part .standby)) (some 9) = true ∧
        expired (instant 8 (part .standby)) (some 9) = false) ∧
      ((part .standby).nvs.snap = none ∧ (part .standby).nvs.flight = .none ∧ (part .standby).nvs.active = true ∧
        isDue (part .standby) (snapSector 0) = false ∧ Memory.blank (part .standby).nvs.array (snapAddr 0) 256 = true) := by
  decide +kernel

theorem wit_SaveSettingsOrder :
    run.spd.moving = false ∧ ¬InProgress run [.saving] ∧ setsBusy run = false ∧ run.nvs.snap = none ∧
      (flying (.program (prog .odo 0x2000 [] 120)) run).nvs.flight ≠ .none := by
  unfold InProgress; decide +kernel

theorem wit_CalibrationOrders :
    (2000 ≤ (2000#16).toNat ∧ (60000#16).toNat ≤ 60000 ∧ run.spd.moving = false ∧ run.nvs.locked = false) ∧
      ¬InProgress run [.calibrating, .locking] ∧ 255 < 256 ∧ calBusy run = false ∧
      (∃ p, programOf (flying (.program (prog .odo 0x2000 [] 120)) run).nvs.flight = some p) ∧
      (run.nvs.active = true ∧ run.psc.low = false ∧
        Memory.blank { run with nvs := { run.nvs with calPtr := 255 } }.nvs.array (calAddr 255) 16 = true) ∧
      (∃ e, (flying (.erase ⟨13, false, 0, 0, 40000⟩) run).nvs.flight = .erase e) := by
  refine ⟨by decide, ?_, by decide, by decide +kernel, ⟨_, rfl⟩, by decide +kernel, ⟨_, rfl⟩⟩
  unfold InProgress; decide +kernel

/-- The worked case 'a preset overtaken': a unit takes the odometer one above the preset's total. -/
def presetAt (total odometer : Nat) : State :=
  { run.setOrderSlot 0 ⟨.presetApplying total, 0, 1, 0⟩ with
    spd := { Spd.reset with odometer := odometer }, host := [(0x40, 1), (0x41, 9)] }

theorem wit_PresetOdometerOrder :
    (run.spd.odometer ≤ (999999999#32).toNat ∧ (999999999#32).toNat ≤ 999999999 ∧ run.spd.moving = false ∧
      run.nvs.locked = false) ∧
      (Awake (presetAt 1500000 1500001) ∧
        ((presetAt 1500000 1500001).orderSlot 0).progress = .presetApplying 1500000 ∧
        1500000 < (presetAt 1500000 1500001).spd.odometer) ∧
      ((presetAt 1500000 1500000).spd.odometer ≤ 1500000 ∧
        isDue run (odoSector run.nvs.odoPtr) = false ∧
        Memory.blank run.nvs.array (odoAddr run.nvs.odoPtr) 8 = true) := by
  unfold Awake; decide +kernel

/-- Its step 3 and the case in which the preset comes first. -/
theorem test_preset_apply :
    (after (.presetApply 0 0) (presetAt 1500000 1500001)).orderSlot 0 = ⟨.idle, 1, 0x04, 1⟩ ∧
      (after (.presetApply 0 0) (presetAt 1500000 1500000)).nvs.flight ≠ .none := by
  decide +kernel

/-- The worked case 'a save with a preset and a snapshot': at 12 ms the erase is suspended with 28 ms left. -/
theorem test_preset_suspends_the_erase :
    (match (after (.presetApply 12000 0) (flying (.erase ⟨0, true, 0, 0, 40000⟩) (presetAt 5 5))).nvs.flight with
      | .suspended e p => e.remaining == 28000 && p.endsAt == 12120
      | _ => false) = true := by
  decide +kernel

/-- The order of each refusal's check, and the first code that no order has. -/
theorem wit_OrdersAreRefused :
    refusal run (.acknowledge 0 7 1 53) = some (0x04, 1) ∧ refusal run (.resetTrip 0 7 1 2) = some (0x04, 1) ∧
      refusal run (.rehome 0 7 1 0) = some (0x04, 1) ∧ refusal (part .standby) (.rehome 0 7 1 1) = some (0x02, 2) ∧
      refusal run (.lampTest 0 7 1 11) = some (0x04, 1) ∧ refusal (part .proof) (.lampTest 0 7 1 1) = some (0x02, 3) ∧
      refusal run (.setTime 0 7 1 0 1440 0) = some (0x04, 2) ∧ refusal run (.setTime 0 7 1 0 0 60) = some (0x04, 3) ∧
      refusal run (.calibrate 0 7 1 1999) = some (0x04, 1) ∧ refusal run (.calibrate 0 7 1 60001) = some (0x04, 1) ∧
      refusal run (.presetOdometer 0 7 1 1000000000) = some (0x04, 1) ∧
      refusal { run with nvs := { run.nvs with locked := true } } (.lockCalibration 0 7 1) = some (0x03, 0) ∧
      refusal { run with spd := { run.spd with moving := true } } (.saveSettings 0 7 1) = some (0x02, 1) ∧
      ((0 : Byte) = 0 ∧ 0x0A < (0x0B : Byte).toNat) := by
  decide +kernel

/-! ### Speed and distance -/

/-- The speed section of the worked cases: BOTH edges, minimum gap 50 µs, gate time 100 ms, stall window 1,200 ms, jump limit
3,000; channel 0 with the source SPEED. -/
def speedSettings : Memory :=
  [(0x420, 3), (0x422, 50), (0x424, 100), (0x426, 0xB0), (0x427, 4), (0x428, 0xB8), (0x429, 0x0B), (0x42E, 100), (0x440, 1)]

/-- SPD in the middle of the worked case 'a gate at a steady 80 km/h', after E17. -/
def atE17 : State :=
  { part .normal speedSettings with
    now := 95625
    spd := { Spd.reset with
      gateState := .gating, gate := some ⟨0, 17, 0⟩, lastEdge := some 95625, stallTimer := some 1295625, remainder := 1800 } }

theorem wit_EdgesAddDistanceExactly :
    Accepted 101250 true atE17 ∧ (2000 ≤ atE17.nvs.pulse ∧ atE17.spd.remainder < atE17.nvs.pulse ∧
      atE17.spd.odometer ≤ 999999999 ∧ atE17.spd.tripA ≤ 9999999 ∧ atE17.spd.tripB ≤ 9999999) ∧
      (Awake atE17 ∧ gapFails (tick 95674 atE17) = true ∧ gapFails (tick 95675 atE17) = false) := by
  unfold Accepted Awake; decide +kernel

/-- One accepted edge is a run of one edge. -/
theorem wit_EdgesAddDistanceExactly_run : EdgeRun 1 atE17 (after (.speedEdge 101250 true) atE17) :=
  .more 101250 true (.none _) (by unfold Accepted Awake; decide +kernel) rfl

/-- E18 closes the gate: 8,000 published, S = 1,900, the needle's source offered 8,000; 13 µs later it is 7,998. -/
theorem test_gate_close :
    (after (.speedEdge 101250 true) atE17).spd.vPub = 8000 ∧ (after (.speedEdge 101250 true) atE17).spd.remainder = 1900 ∧
      ((after (.speedEdge 101250 true) atE17).channel 0).x = 8000 ∧ (after (.speedEdge 101263 true) atE17).spd.vPub = 7998 := by
  decide +kernel

/-- The worked case 'distance, wrap and a coalesced record request', before its first edge. -/
def beforeUnit : State :=
  { part .normal speedSettings with
    psc := { (part .normal).psc with low := true }
    spd := { Spd.reset with odometer := 1234499, tripA := 9999999, tripB := 52310, remainder := 7950 } }

theorem wit_OdometerLaw :
    (Accepted 0 true beforeUnit ∧ beforeUnit.nvs.pulse ≤ beforeUnit.spd.remainder + 100 ∧
      beforeUnit.spd.odometer < 999999999 ∧ (beforeUnit.spd.odometer + 1) % recordStep beforeUnit = 0 ∧
      beforeUnit.psc.low = true ∧ beforeUnit.spd.tripA = 9999999 ∧ beforeUnit.spd.tripB < 9999999) ∧
      (run.nvs.odo = none ∧ run.nvs.flight = .none ∧ run.nvs.active = true ∧ run.psc.low = false ∧
        isDue run (odoSector run.nvs.odoPtr) = false ∧ Memory.blank run.nvs.array (odoAddr run.nvs.odoPtr) 8 = true) ∧
      999999999 ≤ 999999999 := by
  unfold Accepted Awake; decide +kernel

theorem test_unit_counts_and_wraps :
    (after (.speedEdge 0 true) beforeUnit).spd.odometer = 1234500 ∧ (after (.speedEdge 0 true) beforeUnit).spd.tripA = 0 ∧
      (after (.speedEdge 0 true) beforeUnit).spd.remainder = 50 ∧
      (after (.speedEdge 0 true) beforeUnit).nvs.odo.isSome = true := by
  decide +kernel

theorem wit_RejectedEdgesOnlyCount :
    (Awake atE17 ∧ inRun atE17 = true ∧ edgeQualifies atE17 true = true ∧ gapFails (tick 95674 atE17) = true) ∧
      inRun (part .standby) = false ∧ edgeQualifies (part .normal [(0x420, 1)]) true = false := by
  unfold Awake; decide +kernel

/-- Gates at both sides of the jump limit: 8,000 published, and a gate of one edge in 100 ms. -/
theorem wit_GateCloseComputesTheSpeed :
    Accepted 101250 true atE17 ∧ atE17.spd.gate = some ⟨0, 17, 0⟩ ∧ 17 < 65535 ∧ 0 + gateTime atE17 ≤ instant 101250 atE17 ∧
      (atE17.spd.gateState ≠ .running ∧
        { atE17 with spd := { atE17.spd with gateState := .running } }.spd.gateState = .running) ∧
      ¬0 + gateTime atE17 ≤ instant 99999 atE17 ∧ 0 + gateTime atE17 ≤ instant 100000 atE17 := by
  unfold Accepted Awake; decide +kernel

/-- The worked case 'decay and stall after the last edge': the update at e = 7,000 µs, and at 227,000 µs the confirm run. -/
def decaying (vPub : Nat) (moving : Bool) : State :=
  { part .normal speedSettings with
    spd := { Spd.reset with
      gateState := .running, gate := some ⟨0, 0, 0⟩, lastN := 18, lastTsum := 101250, vPub := vPub, moving := moving
      lastEdge := some 0, stallTimer := some 1200000 } }

theorem wit_SpeedUpdateDecaysAndJudges :
    (Awake (decaying 8000 true) ∧ inRun (decaying 8000 true) = true ∧ (decaying 8000 true).spd.gateState = .running ∧
      (decaying 8000 true).spd.lastEdge = some 0 ∧ (decaying 8000 true).spd.confirmRun = none) ∧
      (decaying 8000 true).spd.lastTsum < (instant 7000 (decaying 8000 true) - 0) * (decaying 8000 true).spd.lastN ∧
      (¬(true = true ↔ 200 ≤ 199) ∧ (true = true ↔ 200 ≤ 200)) ∧
      (overspeedThreshold (part .normal) = 0 ∧ overspeedThreshold (part .normal [(0x42A, 100)]) = 100) ∧
      inRun (part .standby) = false := by
  unfold Awake; decide +kernel

theorem test_decay :
    (after (.speedUpdate 7000) (decaying 8000 true)).spd.vPub = 6428 ∧
      (after (.speedUpdate 227000) (decaying 207 true)).spd.vPub = 198 ∧
      (after (.speedUpdate 227000) (decaying 207 true)).spd.confirmRun = some 227000 := by
  decide +kernel

theorem wit_StallDiscardsTheGate :
    (Awake (decaying 37 true) ∧ expired (instant 1200000 (decaying 37 true)) (decaying 37 true).spd.stallTimer = true ∧
      (decaying 37 true).spd.gateState ≠ .idle ∧
      { decaying 0 true with spd := { (decaying 0 true).spd with gateState := .gating } }.spd.gateState ≠ .idle ∧
      gaugeSource (decaying 37 true) 0 = .speed ∧ gaugeSource (decaying 37 true) 1 ≠ .speed) ∧
      expired (instant 1199999 (decaying 37 true)) (decaying 37 true).spd.stallTimer = false ∧
      ({ run with spd := { run.spd with stallTimer := some 0 } }).spd.gateState = .idle := by
  unfold Awake; decide +kernel

/-- A stall offers v_pub when it was 0 too. -/
theorem test_stall_offers :
    ((after (.stallTimerExpiry 1200000) (withChannel 0 { Channel.reset with x := 5 } (decaying 0 true))).channel 0).x = 0 := by
  decide +kernel

/-! ### Gauges -/

/-- GC0 of the worked cases: source SPEED, k = 2, v_max 4, homing speed 4, stall sense on, and the table of four points. -/
def gaugeSettings : Memory :=
  [(0x440, 1), (0x441, 2), (0x442, 0x20), (0x443, 0x0D), (0x444, 4), (0x445, 4), (0x446, 120), (0x448, 3), (0x44B, 4),
    (0x458, 0xD0), (0x459, 7), (0x45A, 0xA4), (0x45B, 1), (0x45C, 0xE0), (0x45D, 0x2E), (0x45E, 0x7C), (0x45F, 0x0B),
    (0x460, 0xB0), (0x461, 0x36), (0x462, 0x20), (0x463, 0x0D)]

/-- GC0 in a state, with x, t, p, v, the direction and the a_max in use 3,360. -/
def gauge (st : ChannelState) (x tgt pos vel : Nat) (dir : Direction) : State :=
  withChannel 0 { Channel.reset with
    state := st, source := .speed, x := x, demand := tgt, target := tgt, pos := pos, vel := vel, dir := dir, aMax := 3360 }
    (part .normal gaugeSettings)

/-- GC0 on the source HOST with its freshness timer due at 1 ms. -/
def hosted (st : ChannelState) : State :=
  withChannel 0 { (gauge st 0 0 0 0 .up).channel 0 with source := .host, freshTimer := some 1000 }
    (part .normal ((0x440, 2) :: gaugeSettings.tail))

theorem wit_FilterEventDampsTheTarget :
    (Awake (gauge .tracking 8000 1000 0 0 .up) ∧ inLoading (gauge .tracking 8000 1000 0 0 .up) = false ∧
      ((gauge .tracking 8000 1000 0 0 .up).channel 0).state ≠ .unhomed ∧
      ((gauge .tracking 8000 1000 0 0 .up).channel 0).state ≠ .fault) ∧
      (dampingShift (part .normal) 0 = 0 ∧ ((gauge .fault 0 0 0 0 .up).channel 0).state = .fault ∧
        (run.channel 0).state = .unhomed) ∧
      (3360 ≤ ((gauge .tracking 15000 3359 0 0 .up).channel 0).aMax ∧ 3360 ≤ 3359 + 1) := by
  unfold Awake; decide +kernel

/-- A filter event that sets the demand angle to 3,360 is a run of one. -/
theorem wit_FilterEventDampsTheTarget_run :
    FilterRun 0 3360 1 (gauge .tracking 15000 3359 0 0 .up) (after (.filterEvent 0) (gauge .tracking 15000 3359 0 0 .up)) :=
  .more 0 (.none _) rfl (by decide +kernel)

/-- 'Damping toward a new demand', its first event, and the last steps by 1. -/
theorem test_damping :
    ((after (.filterEvent 0) (gauge .tracking 8000 1000 0 0 .up)).channel 0).target = 1233 ∧
      ((after (.filterEvent 0) (gauge .tracking 8000 1929 0 0 .up)).channel 0).target = 1930 := by
  decide +kernel

/-- The table of 'from road speed to needle angle': a half rounds away from zero, on a falling segment too. -/
theorem test_table_angles :
    tableAngle (gauge .tracking 0 0 0 0 .up) 0 8000 = 1932 ∧ tableAngle (gauge .tracking 0 0 0 0 .up) 0 7998 = 1931 ∧
      tableAngle (gauge .tracking 0 0 0 0 .up) 0 2125 = 452 ∧ tableAngle (gauge .tracking 0 0 0 0 .up) 0 15000 = 3360 ∧
      tableAngle (part .normal [(0x44B, 2), (0x456, 5), (0x458, 2), (0x45A, 4)]) 0 1 = 4 := by
  decide +kernel

theorem wit_FilterEventSetsTheDemandAngle :
    (Awake (gauge .tracking 2125 0 0 0 .up) ∧ inLoading (gauge .tracking 2125 0 0 0 .up) = false ∧
      gaugeSource (gauge .tracking 2125 0 0 0 .up) 0 ≠ .off ∧ ((gauge .tracking 2125 0 0 0 .up).channel 0).aMax ≠ 0 ∧
      1 < pointCount (gauge .tracking 2125 0 0 0 .up) 0 - 1 ∧ pointX (gauge .tracking 2125 0 0 0 .up) 0 1 ≤ 2125 ∧
      2125 < pointX (gauge .tracking 2125 0 0 0 .up) 0 2 ∧
      ((after (.filterEvent 0) (gauge .tracking 2125 0 0 0 .up)).channel 0).calibration = false ∧
      ((after (.filterEvent 0) (gauge .tracking 2125 0 0 0 .up)).channel 0).x = 2125 ∧
      ((after (.filterEvent 0) (gauge .tracking 2125 0 0 0 .up)).channel 0).mode = .track) ∧
      gaugeSource run 0 = .off ∧
      ((after (.filterEvent 0) (hosted .stale)).channel 0).state = .stale ∧ gaugeSource (hosted .stale) 0 = .host ∧
      ((gauge .stale 0 0 0 0 .up).channel 0).state = .stale ∧ gaugeSource (gauge .stale 0 0 0 0 .up) 0 = .speed ∧
      (gaugeSource (hostGauge .normal) 0 = .host ∧ ((hostGauge .normal).channel 0).source ≠ .host ∧
        freshness (hostGauge .normal) 0 ≠ 0 ∧ ((hostGauge .normal).channel 0).storedMode ≠ .hold) ∧
      pointX (gauge .stale 0 0 0 0 .up) 0 (pointCount (gauge .stale 0 0 0 0 .up) 0 - 1) ≤ 14000 := by
  unfold Awake; decide +kernel

/-- A take under HOST between two filter events that both read SPEED: the second has the channel in TRACK with no timer
(R28), and a timer that expires first makes nothing stale. -/
theorem test_speed_stays_track :
    ((after (.filterEvent 0) (withChannel 0
      { (gauge .tracking 0 0 0 0 .up).channel 0 with mode := .hold, freshTimer := some 9 } (part .normal gaugeSettings))).channel
        0).mode = .track ∧
      ((after (.freshnessExpiry 9 0) (withChannel 0
        { (gauge .tracking 0 0 0 0 .up).channel 0 with freshTimer := some 9 } (part .normal gaugeSettings))).channel
          0).state = .tracking := by
  decide +kernel

/-- GC0 at the end of the proof sweep's DOWN_LEG, its last microstep left. -/
def sweepingDown : State :=
  withChannel 0 { (gauge .sweep 0 20 13 1 .down).channel 0 with leg := .downLeg, restAngle := 12 } (part .normal gaugeSettings)

/-- 'A short move from rest' at its first event, and with the needle on its target. -/
theorem wit_StepEventFollowsTheProfile :
    (Awake (gauge .tracking 0 20 0 0 .up) ∧ inLoading (gauge .tracking 0 20 0 0 .up) = false ∧
      (gauge .tracking 0 20 0 0 .up).psc.low = false ∧ (0 : Fin 8) ∉ ([1] : List (Fin 8)) ∧
      ((gauge .tracking 0 20 0 0 .up).channel 0).state = .tracking ∧ ((gauge .tracking 0 20 0 0 .up).channel 0).vel = 0 ∧
      ((gauge .tracking 0 20 0 0 .up).channel 0).pos ≠ motionTarget (gauge .tracking 0 20 0 0 .up) 0) ∧
      ((gauge .tracking 0 20 20 4 .up).channel 0).pos = motionTarget (gauge .tracking 0 20 20 4 .up) 0 ∧
      (((gauge .tracking 0 20 19 2 .up).channel 0).dir = .up ∧
        ((gauge .tracking 0 20 19 2 .up).channel 0).pos < motionTarget (gauge .tracking 0 20 19 2 .up) 0) ∧
      (((gauge .parking 0 20 1 1 .down).channel 0).state = .parking ∧ ((gauge .sweep 0 20 3359 1 .up).channel 0).state = .sweep ∧
        ((gauge .sweep 0 20 3359 1 .up).channel 0).leg = .upLeg ∧ (sweepingDown.channel 0).state = .sweep ∧
        (sweepingDown.channel 0).leg = .downLeg ∧ (sweepingDown.channel 0).restAngle ≤ (sweepingDown.channel 0).aMax) := by
  unfold Awake; decide +kernel

/-- Each arrival by the last microstep: PARKED, DOWN_LEG, and the end of the sweep. -/
theorem test_arrivals :
    ((after (.stepEvent 0 []) (gauge .parking 0 20 1 1 .down)).channel 0).state = .parked ∧
      ((after (.stepEvent 0 []) (gauge .sweep 0 20 3359 1 .up)).channel 0).leg = .downLeg ∧
      ((after (.stepEvent 0 []) sweepingDown).channel 0).state = .tracking := by
  decide +kernel

/-- Step events 5, 6 and 8 of 'a short move from rest': v′ = 4, 3 and the arrival. -/
theorem test_short_move :
    ((after (.stepEvent 0 []) (gauge .tracking 0 20 10 4 .up)).channel 0).vel = 4 ∧
      ((after (.stepEvent 0 []) (gauge .tracking 0 20 14 4 .up)).channel 0).pos = 17 ∧
      ((after (.stepEvent 0 []) (gauge .tracking 0 20 19 2 .up)).channel 0).vel = 0 ∧
      ((after (.stepEvent 0 []) (gauge .tracking 0 20 19 2 .up)).channel 0).pos = 20 := by
  decide +kernel

/-- 'A target that jumps behind the needle', and both clamps. -/
theorem wit_StepEventSlowsTurnsAndFreezes :
    (Awake (gauge .tracking 0 90 100 3 .up) ∧ 0 < ((gauge .tracking 0 90 100 3 .up).channel 0).vel ∧
      (0 : Fin 8) ∉ ([] : List (Fin 8)) ∧ ((gauge .tracking 0 90 100 3 .up).channel 0).dir = .up ∧
      motionTarget (gauge .tracking 0 90 100 3 .up) 0 < ((gauge .tracking 0 90 100 3 .up).channel 0).pos) ∧
      (((gauge .tracking 0 90 1 3 .down).channel 0).pos < 3 - 1 ∧
        1 < motionTarget (gauge .tracking 0 90 1 3 .down) 0 ∧
        motionTarget (gauge .tracking 0 90 1 3 .down) 0 ≤ ((gauge .tracking 0 90 1 3 .down).channel 0).aMax ∧
        ((gauge .tracking 0 90 3359 3 .up).channel 0).pos ≤ ((gauge .tracking 0 90 3359 3 .up).channel 0).aMax ∧ ((gauge .tracking 0 90 3359 3 .up).channel 0).aMax < 3359 + (3 - 1)) ∧
      (((gauge .tracking 0 90 100 3 .up).channel 0).state ≠ .homing ∧
        ((gauge .tracking 0 90 100 3 .up).channel 0).pos ≤ ((gauge .tracking 0 90 100 3 .up).channel 0).aMax) ∧
      { run with psc := { run.psc with low := true } }.psc.low = true := by
  unfold Awake; decide +kernel

/-- DOWN_LEG goes to a_0 as the last filter event read it, a host change of the table since then notwithstanding (R25). -/
theorem test_down_leg_target :
    ((withChannel 0 { Channel.reset with state := .sweep, leg := .downLeg, aMax := 3360, restAngle := 12 }
      (part .normal gaugeSettings)).channel 0).motionTarget = 12 ∧
      ((after (.filterEvent 0) (gauge .sweep 0 0 0 0 .up)).channel 0).restAngle = 0 := by
  decide +kernel

/-- Its events 1 and 3: the needle slows away from the target and turns at v = 0. -/
theorem test_turn :
    ((after (.stepEvent 0 []) (gauge .tracking 0 90 100 3 .up)).channel 0).pos = 102 ∧
      ((after (.stepEvent 0 []) (gauge .tracking 0 90 103 1 .up)).channel 0).dir = .down ∧
      ((after (.stepEvent 0 []) (gauge .tracking 0 90 103 1 .up)).channel 0).pos = 103 := by
  decide +kernel

/-- GC0 in HOMING with a count left. -/
def homing (n : Nat) : State :=
  withChannel 0 { (gauge .homing 0 0 n 4 .down).channel 0 with count := n, sweepDue := true, missing := 2 } (part .normal gaugeSettings)

theorem wit_HomingRunsItsCountAndEnds :
    (Awake (homing 4) ∧ homingEnds 0 (homing 4) = true) ∧ homingEnds 0 (homing 5) = false ∧
      (inLoading (homing 5) = false ∧ (homing 5).psc.low = false ∧ ((homing 5).channel 0).state = .homing ∧
        homingSpeed (homing 5) 0 < ((homing 5).channel 0).count ∧ inRun (homing 5) = true) := by
  unfold Awake; decide +kernel

/-- 'Key-on with proof sweep': homing ends in SWEEP on UP_LEG at rest on the stop. -/
theorem test_homing_end :
    ((after (.homingEnd 0 0) (homing 4)).channel 0).state = .sweep ∧ ((after (.homingEnd 0 0) (homing 4)).channel 0).pos = 0 ∧
      ((after (.homingEnd 0 0) (homing 4)).channel 0).vel = 0 := by
  decide +kernel

/-- 'A jammed needle': v = 4 over the boundary at 12, with the third MISSING due. -/
def jammed (st : ChannelState) (missing : Nat) (rehomeAt : Option Nat) : State :=
  withChannel 0 { (gauge st 0 100 10 4 .up).channel 0 with missing := missing, rehomeAt := rehomeAt } (part .normal gaugeSettings)

/-- GC0 at a position, with a velocity and a target, and two MISSING samples behind it. -/
def nearTarget (pos vel tgt : Nat) (dir : Direction) : State :=
  withChannel 0 { (gauge .tracking 0 tgt pos vel dir).channel 0 with missing := 2 } (part .normal gaugeSettings)

theorem wit_StallIndications :
    (Awake (jammed .tracking 2 none) ∧ inLoading (jammed .tracking 2 none) = false ∧
      (jammed .tracking 2 none).psc.low = false ∧ stallSense (jammed .tracking 2 none) 0 = true ∧
      (0 : Fin 8) ∈ ([0] : List (Fin 8)) ∧ Chooses (jammed .tracking 2 none) 0 4 ∧
      CrossesBoundary 10 ((after (.stepEvent 0 []) (jammed .tracking 2 none)).channel 0).pos) ∧
      (((jammed .parking 2 none).channel 0).state = .parking ∧ ((jammed .tracking 1 none).channel 0).missing < 2) ∧
      (((jammed .tracking 2 (some 3000)).channel 0).rehomeAt = some 3000 ∧
        instant 60002999 (jammed .tracking 2 (some 3000)) < 3000 + 60000000 ∧
        3000 + 60000000 ≤ instant 60003000 (jammed .tracking 2 (some 3000))) ∧
      (((homing 12).channel 0).missing = 2 ∧ 2 ≤ homingSpeed (homing 13) 0 ∧
        homingSpeed (homing 13) 0 < ((homing 13).channel 0).count ∧ 13 - homingSpeed (homing 13) 0 ≤ 12 * 1 ∧ 12 * 1 < 13 ∧
        CrossesBoundary 13 (13 - homingSpeed (homing 13) 0)) := by
  refine ⟨⟨by unfold Awake; decide, by decide, by decide, by decide +kernel, by decide, ?_, 1, by decide +kernel⟩,
    by decide +kernel, by decide +kernel, by decide +kernel, by decide +kernel, by decide +kernel, by decide, by decide,
    1, by decide +kernel⟩
  unfold Chooses distance
  simp only [forall_eq]
  exact ⟨by decide +kernel, by decide +kernel, by decide +kernel⟩

/-- v = 1 that becomes 2 over a boundary, a needle that arrives on one with v' = 4, and a move of v' = 3 that the clamp shortens. -/
theorem wit_StallIndications_edges :
    (Chooses (nearTarget 11 1 100 .up) 0 2 ∧ CrossesBoundary 11 13) ∧
      (Chooses (nearTarget 22 5 24 .up) 0 4 ∧ CrossesBoundary 22 24) ∧
      Chooses (nearTarget 2 4 100 .down) 0 0 := by
  unfold Chooses distance
  simp only [forall_eq]
  exact ⟨⟨⟨by decide +kernel, by decide +kernel, by decide +kernel⟩, 1, by decide⟩,
    ⟨⟨by decide +kernel, by decide +kernel, by decide +kernel⟩, 2, by decide⟩,
    by decide +kernel, by decide +kernel, by decide +kernel⟩

/-- The third MISSING stalls a needle that arrives, and none is taken where the clamp shortens the move. -/
theorem test_stall_edges :
    ((after (.stepEvent 3000 [0]) (nearTarget 11 1 100 .up)).channel 0).state = .homing ∧
      ((after (.stepEvent 3000 [0]) (nearTarget 22 5 24 .up)).channel 0).state = .homing ∧
      ((after (.stepEvent 3000 [0]) (nearTarget 2 4 100 .down)).channel 0).state = .tracking := by
  decide +kernel

/-- A PRESENT sample in HOMING sets the missing run to 0; at a homing speed of 1 none is taken, over the same boundary. -/
theorem test_homing_samples (slow : State)
    (h : slow = { homing 13 with host := (homing 13).host.map fun x => if x.1 = gaugeBase 0 + 5 then (x.1, 1) else x }) :
    ((after (.stepEvent 3000 []) (homing 13)).channel 0).missing = 0 ∧
      (homingSpeed slow 0 = 1 ∧ stallSense slow 0 = true ∧ 1 < (slow.channel 0).count ∧
        ((after (.stepEvent 3000 [0]) slow).channel 0).missing = 2 ∧ ((after (.stepEvent 3000 [0]) slow).channel 0).pos = 12) := by
  subst h; decide +kernel

/-- The first stall homes, one within 60 s of the rehome time goes to FAULT. -/
theorem test_stall :
    ((after (.stepEvent 3000 [0]) (jammed .tracking 2 none)).channel 0).state = .homing ∧
      ((after (.stepEvent 41200000 [0]) (jammed .tracking 2 (some 3000))).channel 0).state = .fault := by
  decide +kernel

theorem wit_FreshnessExpiry :
    (((hosted .tracking).channel 0).source = .host ∧ ((gauge .tracking 0 0 0 0 .up).channel 0).source ≠ .host) ∧
    (Awake (hosted .tracking) ∧ expired (instant 1000 (hosted .tracking)) ((hosted .tracking).channel 0).freshTimer = true ∧
      ((hosted .tracking).channel 0).state = .tracking ∧ inRun (hosted .tracking) = true ∧
      (hosted .tracking).gau.staleAssert = false ∧ ((hosted .tracking).causeOf 43).state = .clear) ∧
      ((hosted .sweep).channel 0).state ≠ .tracking ∧
      expired (instant 999 (hosted .tracking)) ((hosted .tracking).channel 0).freshTimer = false := by
  unfold Awake; decide +kernel

/-! ### Causes, lamps and the sounder -/

/-- The ACK button's raw level differs from the debounced one since instant 0. -/
def pressing (ack : Bool) (s : State) : State :=
  { s with ttu := { s.ttu with ack := ack, ackRaw := !ack, ackRun := some 0 } }

/-- A chime in its first on-period, of 200 ms, with three repeats and an off time of 100 ms. -/
def firstPeriod (n : Fin 53) (cls : Nat) : Playing where
  request := ⟨n, cls, 0, 0⟩
  pattern := ⟨⟨2, 124⟩, none, 20, 10, 3⟩
  onCount := 1
  isOn := true
  endsAt := 200000

/-- A cause's chime plays. -/
def playing (n : Fin 53) (cls : Nat) (s : State) : State :=
  { s with ttu := { s.ttu with playing := some (firstPeriod n cls) } }

theorem wit_AckButton :
    (inLoading run = false ∧ inLoading (part .loading) = true) ∧
      (Awake (pressing false run) ∧ (pressing false run).ttu.ack = false ∧ (pressing false run).ttu.ackRun = some 0 ∧
      0 + 30000 ≤ instant 30000 (pressing false run) ∧ lasted (instant 29999 run) 30000 (pressing false run).ttu.ackRun = false) ∧
      (inRun (part .standby) = false ∧ (playing 7 0 run).ttu.playing.map (fun p => p.request.cls) = some 0) ∧
      (inRun (playing 7 1 run) = true ∧ ((playing 7 1 (withCause 7 .active run)).causeOf 7).state = .active ∧
        ((playing 7 1 (withCause 7 .active run)).causeOf 7).cls ≠ 0) ∧
      (run.ttu.playing = none ∧ ((withCause 7 .held run).causeOf 7).state = .held) ∧
      (Awake (pressing true run) ∧ (pressing true run).ttu.ack = true ∧ (pressing true run).ttu.ackRun = some 0) := by
  unfold Awake; decide +kernel

/-- 'A latched cause and the ACK button', steps 2 and 5. -/
theorem test_ack_press :
    ((after (.ackPress 30000) (pressing false (playing 7 0 (withCause 7 .active run)))).causeOf 7).state = .active ∧
      ((after (.ackPress 30000) (pressing false (withCause 7 .held run))).causeOf 7).state = .clear := by
  decide +kernel

/-- The ACK input takes no level in LOADING, and the run goes on (R51). -/
theorem test_ack_in_loading :
    (after (.ackPress 30000) (pressing false (part .loading))).ttu.ack = false ∧
      (after (.ackPress 30000) (pressing false (part .loading))).ttu.ackRun = some 0 := by
  decide +kernel

theorem wit_BlinkPhaseStepEvaluatesTheLamps :
    (Awake run ∧ inRun run = true) ∧ inRun (part .standby) = false ∧
      ({ run with ttu := { run.ttu with blink := 7 } }).ttu.blink = 7 := by
  unfold Awake; decide

/-- Causes 3 (SLOW, class 2) and 33 (FAST, class 1) light L5, whose fallback L6 also carries cause 41 (class 3). -/
def sharedLamps (isOpen : Bool) (openRun : Nat) : State :=
  let s := part .normal [(0x64C, 5), (0x64E, 0x10), (0x6C4, 5), (0x6C6, 0x20), (0x6E4, 6), (0x79A, 6)]
  let s := ((s.setCause 3 ⟨.active, 2, 0, false⟩).setCause 33 ⟨.acked, 1, 0, false⟩).setCause 41 ⟨.active, 3, 0, false⟩
  { s with ttu := { s.ttu with lamps := vset s.ttu.lamps 5 ⟨true, true, .fast, openRun, isOpen, false⟩ } }

/-- 'Lamps shared and a fallback': the patterns with L5 healthy and with L5 OPEN. -/
theorem test_shared_lamps :
    (after (.blinkPhaseStep 0) (sharedLamps false 0)).ttu.lamps[5].pattern = .fast ∧
      (after (.blinkPhaseStep 0) (sharedLamps false 0)).ttu.lamps[6].pattern = .steady ∧
      (after (.blinkPhaseStep 0) (sharedLamps true 0)).ttu.lamps[6].pattern = .fast := by
  decide +kernel

/-- The third OPEN reading of L5, and the second. -/
theorem wit_LampDiagnosticSample :
    (Awake (sharedLamps false 2) ∧ inRun (sharedLamps false 2) = true ∧ (sharedLamps false 2).ttu.lamps[5].isOpen = false ∧
      (after (.lampDiagnosticSample 0 [5]) (sharedLamps false 2)).ttu.lamps[5].isOpen = true ∧
      (sharedLamps false 2).ttu.lampFault = false ∧ ((sharedLamps false 2).causeOf 52).state = .clear ∧
      (sharedLamps false 2).psc.power ≠ .proof ∧ (sharedLamps false 2).ttu.blink < 8 ∧
      (∀ k : Fin 48, (sharedLamps false 2).ttu.lamps[k].isOpen = false →
        (after (.lampDiagnosticSample 0 [5]) (sharedLamps false 2)).ttu.lamps[k].isOpen = true → k = 5)) ∧
      (∀ l ∈ ([5] : List (Fin 48)), (sharedLamps false 1).ttu.lamps[l].output = true →
        (sharedLamps false 1).ttu.lamps[l].isOpen = true ∨ (sharedLamps false 1).ttu.lamps[l].openRun < 2) ∧
      inRun (part .standby) = false := by
  unfold Awake; decide +kernel

/-- A request waits behind an expired silence timer. -/
def silent (q : List Request) (p : Power) : State :=
  { part p with ttu := { Ttu.reset with silence := some 100000, queue := q } }

theorem wit_SounderTimers :
    (Awake (silent [⟨5, 1, 0, 0⟩] .normal) ∧ expired (instant 100000 run) (silent [⟨5, 1, 0, 0⟩] .normal).ttu.silence = true ∧
      (silent [⟨5, 1, 0, 0⟩] .normal).ttu.playing = none ∧ (silent [⟨5, 1, 0, 0⟩] .normal).psc.power = .normal ∧
      (silent [⟨5, 1, 0, 0⟩] .normal).psc.low = false) ∧
      ((silent [] .proof).psc.power ≠ .normal ∧ expired (instant 99999 run) (silent [] .proof).ttu.silence = false) ∧
      (Awake (playing 5 1 run) ∧ 200000 ≤ instant 200000 (playing 5 1 run) ∧ instant 199999 (playing 5 1 run) < 200000) ∧
      ((hostByte run (0x748 + 9 * 7)).toNat ≤ 3 ∧ ¬(hostByte (part .normal [(0x748, 4)]) (0x748 + 9 * 0)).toNat ≤ 3 ∧
        (chimePattern (part .normal [(0x748, 4), (0x74A, 0x80)]) 0).tone2.isSome = true) ∧
      (3 ≤ 3 ∧ 2 < 3 ∧ (10 : Nat) ≠ 0) := by
  unfold Awake; decide +kernel

/-- 'Pre-emption and a class-0 chime': an on-period of 200 ms gives way to an off-period of 100 ms. -/
theorem test_chime_period_end :
    (after (.chimePeriodEnd 200000) (playing 5 1 run)).ttu.playing.map (fun p => (p.isOn, p.endsAt)) =
      some (false, 300000) := by
  decide +kernel

/-- A div code above 3 puts the whole tone 1 at its default, 2,000 Hz. -/
theorem test_tone_default :
    (chimePattern (part .normal [(0x748, 4), (0x749, 9)]) 0).tone1 = ⟨2, 124⟩ ∧ (⟨2, 124⟩ : Tone).period = 500 := by
  decide +kernel

/-- NORMAL with cause 31's chime enable on, tag 7 of class 0 and tag 1 of class 3. -/
def chiming : State := part .normal [(0x6BF, 0x80), (0x741, 3), (0x742, 2)]

theorem wit_ChimeRequestsQueueAndPreempt :
    (Awake chiming ∧ LinkFree chiming ∧ MemoriesCanonical chiming ∧ (1 : Byte) ≠ hostByte chiming (0x100 + 4 * 31) ∧
      inRun chiming = true ∧ (chiming.causeOf (hostCause 31)).state = .clear ∧
      causeChimeOn chiming (hostCause 31) = true) ∧
      (sounderFree chiming = true ∧ chiming.ttu.queue = []) ∧
      (sounderFree (playing 5 3 chiming) = false ∧ 3 ≤ urgencyClass chiming ((1#8).toNat % 8)) ∧
      (urgencyClass chiming ((2#8).toNat % 8) < 3 ∧ (List.replicate 14 (⟨1, 3, 0, 0⟩ : Request)).length ≤ 14) := by
  unfold Awake LinkFree MemoriesCanonical; decide +kernel

/-- A more urgent class stops the playing chime for 100 ms of silence, and both requests wait, the new one first. -/
theorem test_preemption :
    (after (.hostCauseTake 650000 31 1 1 2 0) (playing 12 3 chiming)).ttu.playing = none ∧
      (after (.hostCauseTake 650000 31 1 1 2 0) (playing 12 3 chiming)).ttu.silence = some 750000 ∧
      (after (.hostCauseTake 650000 31 1 1 2 0) (playing 12 3 chiming)).ttu.queue.map Request.cause = [31, 12] := by
  decide +kernel

/-! ### The tachograph line -/

/-- The receiver in the worked case 'a TIME frame' before its CHECK byte, with this sum. -/
def receiving (sum : Nat) (type len : Byte) (payload : List Byte) : State :=
  { part .normal with
    tlr := { Tlr.reset with
      rx := .check, frameType := type, len := len, payload := payload, count := payload.length, sum := sum
      gapTimer := some 10000 } }

theorem wit_BytesAssembleFrames :
    (Awake run ∧ listening run = true ∧ run.tlr.rx = .hunt ∧ (0x95 : Byte) ≠ 0x96) ∧
      ((receiving 96 0x10 5 []).tlr.rx = .check ∧ (0#8).toNat = 0 ∧ 254 < (255#8).toNat) ∧
      inLoading (part .loading) = true ∧
      (expired (instant 10000 run) (receiving 96 0x10 5 []).tlr.gapTimer = true ∧
        expired (instant 9999 run) (receiving 96 0x10 5 []).tlr.gapTimer = false) := by
  unfold Awake; decide +kernel

/-- Each reason in turn, each with the later tests failing too where they can; and a frame of each type that passes. -/
theorem wit_FramesAreJudged :
    (Awake (receiving 96 0x10 5 []) ∧ listening (receiving 96 0x10 5 []) = true) ∧
      ((96 + (0xA1 : Byte).toNat) % 256 ≠ 0 ∧ (96 + (0xA0 : Byte).toNat) % 256 = 0) ∧
      (0x14 : Byte) ∉ ([0x10, 0x11, 0x12, 0x13] : List Byte) ∧
      ((0x10 : Byte), 4) ∉ [((0x10 : Byte), 5), (0x11, 4), (0x12, 14), (0x13, 3)] ∧
      (fieldsInRange 0x10 [0xAB, 0x23, 0xA0, 0x05, 0] = false ∧ fieldsInRange 0x10 [0xAB, 0x23, 0x9F, 0x05, 59] = true) ∧
      [0xAB, 0x23, 0x5D, 0x02, 0x1E] = le 2 (9131#16).toNat ++ le 2 (605#16).toNat ++ [0x1E#8] ∧
      [1, 3, 0x9F, 0x05] = [1#8, 3#8] ++ le 2 (1439#16).toNat ∧
      [1, 1, 0x87, 0xD6, 0x12, 0, 0x82, 0, 4, 1, 0x96, 0x0B, 1, 0] =
        [1#8, 1#8] ++ le 4 (1234567#32).toNat ++ le 2 (130#16).toNat ++ le 2 (260#16).toNat ++ le 2 (2966#16).toNat ++
          [1#8, 0#8] := by
  unfold Awake; decide +kernel

/-- The worked TIME frame: CHECK A0h sets the clock, A1h counts a line error with BAD_CHECK. -/
theorem test_time_frame :
    (after (.byteCompletion 0 0xA0 true) (receiving 96 0x10 5 [0xAB, 0x23, 0x5D, 0x02, 0x1E])).dtu.day = 9131 ∧
      (after (.byteCompletion 0 0xA0 true) (receiving 96 0x10 5 [0xAB, 0x23, 0x5D, 0x02, 0x1E])).dtu.minute = 605 ∧
      (after (.byteCompletion 0 0xA1 true) (receiving 96 0x10 5 [0xAB, 0x23, 0x5D, 0x02, 0x1E])).tlr.errors = 1 ∧
      (after (.byteCompletion 0 0xA1 true) (receiving 96 0x10 5 [0xAB, 0x23, 0x5D, 0x02, 0x1E])).lnk.journal[0].payload =
        [0, 0x10, 5, 1, 0, 0, 0, 0] := by
  decide +kernel

/-- The line is LOST, with cause 44 asserted, or ALIVE. -/
def withLine (l : LineState) (s : State) : State :=
  { s with
    tlr := { s.tlr with line := l, lostAssert := decide (l = .lost), lineTimer := some 5000000 }
    dtu := { s.dtu with line := l } }

theorem wit_ValidFramesKeepTheLineAlive :
    (frameOf (.presenceFrame 0 3 3 0) = some (0, 0x13) ∧ Awake run ∧ listening run = true ∧
      (Instr.presenceFrame 0 3 3 0).wf = true ∧ run.tlr.line ≠ .alive ∧ run.dtu.moving = false) ∧
      ((withLine .lost run).tlr.lostAssert = true ∧ inRun (withLine .lost run) = true) ∧
      (withLine .alive run).tlr.line = .alive ∧ inLoading (part .loading) = true := by
  unfold Awake; decide +kernel

/-- The laws of the assertions, the line and the chimes hold with the line LOST and cause 44 ACTIVE, and with it ALIVE. -/
theorem wit_ValidFramesKeepTheLineAlive_laws :
    (AssertionLaw run ∧ ChimeLaw (withCause 44 .active (withLine .lost run)) ∧ ChimeLaw (withLine .alive run) ∧
      ((withCause 44 .active (withLine .lost run)).causeOf 44).state = .active) ∧ LineLaw (withLine .alive run) := by
  unfold AssertionLaw DrivingRight ImpliedRight ChimeLaw requests LineLaw; decide +kernel

/-- Both reports absent, and the state resolves so (R111). -/
theorem wit_ValidFramesKeepTheLineAlive_resolved : Resolved run := by
  unfold Resolved; decide +kernel

theorem wit_LineTimerAndMirror :
    (Awake (withLine .alive run) ∧ expired (instant 5000000 run) (withLine .alive run).tlr.lineTimer = true ∧
      (withLine .alive run).tlr.lostAssert = false ∧ inRun (withLine .alive run) = true ∧
      ((withLine .alive run).causeOf 44).state = .clear ∧
      expired (instant 4999999 run) (withLine .alive run).tlr.lineTimer = false) ∧
      (run.tlr.lastFrame = none ∧ (after (.presenceFrame 0 0 0 0) run).tlr.lastFrame = some (0, 0x13)) ∧
      run.psc.power ≠ .loading ∧ (part .loading).psc.power = .loading := by
  unfold Awake; decide +kernel

/-- 'A line that falls silent': at 3.2 s the mirror's time field is 32. -/
theorem test_line_mirror :
    (after (.lineMirrorUpdate 3200000) (after (.presenceFrame 0 0 0 0) run)).tlr.mirrorTime = 32 := by
  decide +kernel

/-! ### Driver time -/

/-- A card in slot i with these counters, its activity reported by the tachograph. -/
def slotWith (i : Fin 2) (a : Activity) (cd dd wd br extensions : Nat) (firstPart : Bool) (s : State) : State :=
  s.setDriver i { Driver.reset with
    present := true, report := some (a, .tacho), activity := a, source := .tacho, cd := cd, dd := dd, wd := wd, br := br
    firstPart := firstPart, extensions := extensions }

/-- The clock in second 59 of minute 1, the second over at 1 s; the last credited minute is `last`. -/
def lateSecond (last : Nat) (s : State) : State :=
  { s with dtu := { s.dtu with minute := 1, second := 59, lastMinute := last, line := .alive }
           tlr := { s.tlr with line := .alive } }

theorem wit_ReportsAreResolved :
    (Awake run ∧ listening run = true ∧ (Instr.activityFrame 0 2 3 1439).wf = true ∧ (Instr.activityFrame 0 1 0 0).wf = true) ∧
      ((lateSecond 0 run).tlr.line = .alive ∧ (1#16).toNat ≤ (lateSecond 0 run).dtu.minute ∧
        ((after (.activityFrame 0 1 3 1) (lateSecond 0 run)).driver 0).activity ≠ ((lateSecond 0 run).driver 0).activity ∧
        (after (.activityFrame 0 1 3 1) (lateSecond 0 run)).driver (1 - 0) = (lateSecond 0 run).driver (1 - 0)) ∧
      (0 : Fin 2).val + 1 = (1#8).toNat ∧ ((3#8).toNat ≤ 3 ∧ (0#8).toNat ≤ 3) ∧
      Activity.unknown ≠ Activity.drive := by
  unfold Awake; decide +kernel

/-- A part that moves on a live line; the slots report WORK and, where `crew`, DRIVE. -/
def underway (crew : Bool) : State :=
  let s := slotWith 1 (if crew then .drive else .work) 0 0 0 0 0 false (slotWith 0 .work 0 0 0 0 0 false (lateSecond 0 run))
  { s with dtu := { s.dtu with moving := true }, spd := { s.spd with moving := true } }

/-- Slot 1 reports DRIVE beside slot 2's, and REST while neither drives; and DRIVE alone is no conflict. -/
theorem wit_ReportsAreResolved_conflicts :
    (Awake (underway true) ∧ listening (underway true) = true ∧ (underway true).tlr.line = .alive ∧
      CrewConflictBegins (after (.activityFrame 0 1 3 1) (underway true)) (underway true)) ∧
      ((underway false).tlr.line = .alive ∧
        MotionConflictBegins (after (.activityFrame 0 1 0 1) (underway false)) (underway false).dtu.motionPosted) ∧
      ¬CrewConflictBegins (after (.activityFrame 0 1 3 1) (underway false)) (underway false) ∧
      ¬MotionConflictBegins (after (.activityFrame 0 1 3 1) (underway false)) (underway false).dtu.motionPosted := by
  unfold Awake CrewConflictBegins MotionConflictBegins baseActivity; decide +kernel

/-- A PRESENCE frame that changes both slots on a live line, and one that changes neither. -/
theorem wit_ReportsAreResolved_presence :
    (Awake (underway false) ∧ listening (underway false) = true ∧ (underway false).tlr.line = .alive) ∧
      (∀ s : State, s = lateSecond 0 (slotWith 1 .work 0 0 0 0 0 false (slotWith 0 .work 0 0 0 0 0 false run)) →
        SlotChanged (after (.presenceFrame 0 0 1 3) s) s 0 ∧ SlotChanged (after (.presenceFrame 0 0 1 3) s) s 1 ∧
          ¬SlotChanged (after (.presenceFrame 0 2 2 3) s) s 0) := by
  refine ⟨by unfold Awake; decide +kernel, ?_⟩
  rintro s rfl
  unfold SlotChanged
  decide +kernel

/-- Slot 1's card goes and slot 2's comes, each with its record; flags that agree post none. -/
theorem test_presence_cards (s : State) (h : s = slotWith 0 .work 5 6 7 0 0 false (lateSecond 0 run)) :
    (presenceRecord s 2 0 = [1, 3, 0, 0, 0, 0, 6, 0] ∧ presenceRecord s 2 1 = [2, 2, 0, 0, 0, 0, 0, 0]) ∧
      ((after (.presenceFrame 0 2 2 2) s).lnk.journal[0].payload = presenceRecord s 2 0 ∧
        (after (.presenceFrame 0 2 2 2) s).lnk.journal[1].payload = presenceRecord s 2 1) ∧
      ((s.driver 0).present = bit 1 0 ∧ (s.driver 1).present = bit 1 1) := by
  subst h; decide +kernel

/-- A speed update that sets the moving flag on a live line. -/
theorem wit_ReportsAreResolved_moving :
    ∃ s : State, Awake s ∧ inRun s = true ∧ s.spd.moving = false ∧ (after (.speedUpdate 9000000) s).spd.moving = true :=
  ⟨{ run with spd := { run.spd with vPub := 200, confirmRun := some 0 } }, by unfold Awake; decide +kernel⟩

/-- While the part moves and no slot drives, a report of REST leaves slot 1 IMPLIED and raises cause 49, and a minute's end sets
assertion 45 of a driving slot and raises cause 45. -/
theorem test_assertions_follow :
    (((after (.activityFrame 0 1 0 1) (underway false)).driver 0).source = .implied ∧
      ((after (.activityFrame 0 1 0 1) (underway false)).causeOf 49).state = .active) ∧
      (after (.minuteEvent 1000000) (lateSecond 0 (slotWith 0 .drive 254 254 254 0 0 false run))).dtu.assert45 = true ∧
      ((after (.minuteEvent 1000000) (lateSecond 0 (slotWith 0 .drive 254 254 254 0 0 false run))).causeOf 45).state =
        .active := by
  decide +kernel

/-- A withdraw of slot 2 carries nothing that is tested, and takesExtension at its two sides. -/
theorem wit_CardFramesLoadTheAccount :
    (Awake run ∧ listening run = true ∧ (Instr.cardFrame 0 ⟨1, 1, 1234567, 130, 260, 2966, 1, 0⟩).wf = true ∧
      (Instr.cardFrame 0 ⟨2, 0, 0, 0, 0, 0, 0, 9⟩).wf = true) ∧
      (takesExtension run 540 1 false = true ∧ takesExtension run 540 2 false = false ∧ takesExtension run 539 1 false = false) ∧
      (slotFilled fullJournal (cursorSlot fullJournal) = true ∧ (withLine .alive run).tlr.line = .alive) ∧
      ((slotWith 0 .rest 0 0 0 0 0 false run).driver 0).present = true ∧ (run.driver 0).present = false := by
  unfold Awake; decide +kernel

/-- An insert whose carried values break R101's order: they are clamped weekly, daily, continuous. -/
theorem test_card_clamps :
    ((after (.cardFrame 0 ⟨1, 1, 7, 300, 400, 200, 0, 1⟩) run).driver 0).dd = 200 ∧
      ((after (.cardFrame 0 ⟨1, 1, 7, 300, 400, 200, 0, 1⟩) run).driver 0).cd = 200 ∧
      ((after (.cardFrame 0 ⟨1, 1, 7, 300, 400, 200, 0, 1⟩) run).driver 0).remContinuous = 70 := by
  decide +kernel

theorem wit_ClockTicks :
    (Awake run ∧ run.psc.power ≠ .loading ∧ run.dtu.secondStart + 1000000 ≤ instant 1000000 run ∧ run.dtu.second < 59) ∧
      ((lateSecond 0 run).dtu.second = 59 ∧ (lateSecond 0 run).dtu.minute < 1439 ∧
        ((lateSecond 0 run).dtu.lastDay = (lateSecond 0 run).dtu.day ∧
          (lateSecond 0 run).dtu.lastMinute < (lateSecond 0 run).dtu.minute)) ∧
      instant 999999 run < run.dtu.secondStart + 1000000 ∧ 65535 ≤ 65535 := by
  unfold Awake; decide +kernel

theorem wit_MinuteEventCredits :
    (Awake (lateSecond 0 run) ∧ (lateSecond 0 run).psc.power ≠ .loading ∧
      (lateSecond 0 run).dtu.secondStart + 1000000 ≤ instant 1000000 (lateSecond 0 run) ∧ (lateSecond 0 run).dtu.second = 59) ∧
      (¬((lateSecond 1 run).dtu.lastDay < (lateSecond 1 run).dtu.day ∨ ((lateSecond 1 run).dtu.lastDay = (lateSecond 1 run).dtu.day ∧
        (lateSecond 1 run).dtu.lastMinute < (lateSecond 1 run).dtu.minute))) ∧
      (((lateSecond 0 (slotWith 0 .drive 1 1 1 0 0 false run)).driver 0).activity = .drive ∧
        ((slotWith 0 .rest 1 1 1 0 0 false run).driver 0).activity = .rest ∧
        ((slotWith 0 .available 1 1 1 0 0 false run).driver 0).activity = .available ∧
        (profile run).restAndAvailable = false) ∧
      ((profile run).splitSecond ≤ 30 ∧ ¬(profile run).splitSecond ≤ 29) := by
  unfold Awake; decide +kernel

/-- An extended day takes an extension, and a fresh account calls for no record. -/
theorem wit_MinuteEventCredits_limits :
    (∀ s : State, s = lateSecond 0 (slotWith 0 .drive 139 539 1000 0 1 false run) →
      limitRecords (after (.minuteEvent 1000000) s) s 0 = [[1, 3, 0x1C, 2, 0x58, 2, 2]] ∧
        limitRecords (after (.minuteEvent 1000000) s) s 1 = []) ∧
      limitRecords (after (.minuteEvent 1000000) (lateSecond 0 run)) (lateSecond 0 run) 0 = [] := by
  refine ⟨?_, by decide +kernel⟩
  rintro s rfl
  decide +kernel

/-- Both slots reach three limits in one minute: six records are due, and fold into one entry of the backlog. -/
theorem test_minute_limits (s v : State)
    (h : s = lateSecond 0 (slotWith 1 .drive 269 539 3359 0 0 false (slotWith 0 .drive 269 539 3359 0 0 false run)))
    (g : v = lateSecond 0 (slotWith 1 .drive 269 539 3359 0 0 false (slotWith 0 .drive 269 539 3359 0 0 false fullJournal))) :
    (limitRecords (after (.minuteEvent 1000000) s) s 0 ++ limitRecords (after (.minuteEvent 1000000) s) s 1).length = 6 ∧
      ((after (.minuteEvent 1000000) v).lnk.backlog.map fun e => (e.kind, e.fold)) =
        [(.lineError, 4), (.causeChange, 4), (.activity, 1), (.driveLimit, 6)] := by
  subst h; subst g; decide +kernel

/-- 'A day with a split break' at 13:10 and 'an extended day' at dd = 540. -/
theorem test_minute_credits :
    ((after (.minuteEvent 1000000) (lateSecond 0 (slotWith 0 .rest 260 260 1260 29 0 true run))).driver 0).cd = 0 ∧
      ((after (.minuteEvent 1000000) (lateSecond 0 (slotWith 0 .drive 139 539 1000 0 1 false run))).driver 0).extended = true ∧
      ((after (.minuteEvent 1000000) (lateSecond 0 (slotWith 0 .drive 139 539 1000 0 1 false run))).driver 0).extensions = 2 ∧
      ((after (.minuteEvent 1000000) (lateSecond 0 (slotWith 0 .drive 139 539 1000 0 1 false run))).driver 0).remDaily = 60 := by
  decide +kernel

/-! ### The segment panel -/

/-- Field 1 of the worked case 'the odometer field'. -/
def odometerField (total : Nat) : State :=
  { part .normal [(0x8B8, 1), (0x8BB, 7), (0x8BC, 0x11), (0x8BD, 1)] with spd := { Spd.reset with odometer := total } }

/-- Field 1 shows the time of day in H:MM, without blanking, in so many cells. -/
def timeField (minute : Nat) (cells : Byte) : State :=
  { part .normal [(0x8B8, 5), (0x8BB, cells), (0x8BD, 0x10)] with
    dtu := { Dtu.reset with minute := minute, timeValid := true } }

theorem wit_ComposeEventBuildsTheImage :
    (Awake run ∧ inRun run = true ∧ inRun (part .standby) = false) ∧
      ((fieldSettings run 15).source = 0 ∧ (fieldSettings (part .normal [(0x8B8, 13)]) 1).source ≠ 0 ∧
        (fieldSettings (part .normal [(0x8B8, 13)]) 1).valid = false) ∧
      ((fieldSettings (odometerField 99999999) 1).valid = true ∧
        (fieldSettings (odometerField 99999999) 1).format = some .decimal ∧
        sourceValue (odometerField 99999999) 1 0 = some 99999999 ∧ 99999999 < 10 ^ 20) ∧
      ((part .proof).psc.power = .proof ∧ run.psc.power = .normal) ∧
      (LitAt (Vector.replicate 4 (BitVec.allOnes 52)) 3 51 ∧ ¬LitAt run.sdu.image 0 0) ∧
      ({ run with sdu := { run.sdu with panel := .composed } }).sdu.panel ≠ .undriven ∧ run.sdu.panel = .undriven := by
  unfold Awake LitAt; decide +kernel

/-- An H:MM field of four cells, a TEXT field and a field without a value, at the ends of their ranges. -/
theorem wit_ComposeEventBuildsTheImage_formats :
    (∀ s : State, s = timeField 1439 4 → (fieldSettings s 1).valid = true ∧ (fieldSettings s 1).format = some .hmm ∧
        sourceValue s 5 0 = some 1439 ∧ (composeFields s)[1].state = .shown ∧ (fieldSettings s 1).count = 4) ∧
      (composeFields (timeField 1439 3))[1].state = .overrange ∧ (composeFields (timeField 599 3))[1].state = .shown ∧
      (sourceValue (part .normal [(0x8B8, 5), (0x8BB, 4), (0x8BD, 0x10)]) 5 0 = none ∧
        (fieldSettings (part .normal [(0x8B8, 5), (0x8BB, 4), (0x8BD, 0x10)]) 1).valid = true) ∧
      ((fieldSettings (part .normal [(0x8B8, 12), (0x8BB, 8), (0x8BD, 0x20)]) 1).valid = true ∧
        (fieldSettings (part .normal [(0x8B8, 12), (0x8BB, 8), (0x8BD, 0x20)]) 1).format = some .char) ∧
      (fieldSettings (part .normal [(0x8B8, 10), (0x8BB, 1), (0x8BD, 0x20)]) 1).valid = true := by
  refine ⟨?_, by decide +kernel⟩
  rintro s rfl
  decide +kernel

/-- The driver read without a slot, and a local offset of -60 minutes. -/
theorem wit_ComposeEventBuildsTheImage_sources :
    (ShownSlot run 0 ∧ ShownSlot (slotWith 1 .drive 0 0 0 0 0 false run) 1) ∧
      (((0xC4 : Byte).toNat + 256 * (0xFF : Byte).toNat : Nat) = (-60 : Int) % 65536 ∧ (-720 : Int) ≤ -60) ∧
      (840 < 841 ∧ 841 < 65536 - 720) := by
  unfold ShownSlot; decide +kernel

/-- Minute 30 with an offset of -60 reads 1,410 (23:30), as R127 says. -/
theorem test_local_time :
    sourceValue { part .normal [(0x8BF, 0xC4), (0x8C7, 0xFF)] with dtu := { Dtu.reset with minute := 30, timeValid := true } } 5 0 =
      some 1410 := by decide +kernel

/-- 09:05 in four cells without blanking: 0905. -/
theorem test_time_field : (composeFields (timeField 545 4))[1].glyphs = [0x3F, 0x6F, 0x3F, 0x6D] := by decide +kernel

/-- Its panel at 1,234,567 units reads 12345.6, and at 100,000,000 units the field is overrange. -/
theorem test_odometer_field :
    (composeFields (odometerField 1234567))[1].glyphs = [0x00, 0x06, 0x5B, 0x4F, 0x66, 0xED, 0x7D] ∧
      (composeFields (odometerField 99999999))[1].state = .shown ∧
      (composeFields (odometerField 100000000))[1].state = .overrange := by
  decide +kernel

/-! ### The non-volatile store -/

theorem wit_StoreStartsTheMostUrgentOperation :
    (Awake run ∧ run.nvs.flight = .none ∧ run.nvs.active = true ∧ run.psc.low = false ∧ StoreIdle run) ∧
      (isDue run (odoSector 4095) = false ∧ Memory.blank run.nvs.array (odoAddr 4095) 8 = true ∧
        isDue { run with nvs := { run.nvs with due := vset run.nvs.due 9 true } } (odoSector 4095) = true ∧
        Memory.blank run.nvs.array (calAddr 255) 16 = true ∧
        isDue { run with nvs := { run.nvs with due := vset run.nvs.due 13 true } } (snapSector 63) = true ∧
        isDue run (snapSector 63) = false ∧ Memory.blank run.nvs.array (snapAddr 63) 256 = true ∧
        { run with nvs := { run.nvs with snap := some ⟨1, 62⟩ } }.nvs.snap = some ⟨1, 62⟩) ∧
      MemoriesCanonical (flying (.erase ⟨0, true, 0, 0, 40000⟩) run) ∧
      (Awake (flying (.erase ⟨0, true, 0, 0, 40000⟩) run) ∧ 0 + 40000 ≤ instant 40000 run ∧ instant 39999 run < 0 + 40000) ∧
      (flying (.erase ⟨13, false, 0, 0, 40000⟩) run).nvs.flight = .erase ⟨13, false, 0, 0, 40000⟩ := by
  unfold Awake StoreIdle MemoriesCanonical; decide +kernel

/-- A pending SNAP whose slot is blank starts its program, of 3,840 µs, ahead of a pending SETS. -/
theorem test_snap_starts :
    (match (after (.nvsStart 0) { run with nvs := { run.nvs with snap := some ⟨0, 0⟩, sets := some ⟨0, 0⟩ } }).nvs.flight with
      | .program p => p.kind == .snap && p.endsAt == 3840
      | _ => false) = true := by
  decide +kernel

/-- 'A save with a preset and a snapshot': the erase step ends, and the program step of 20,940 µs follows. -/
theorem test_sets_program_follows :
    (match (after (.setsEraseStepEnd 40120) (flying (.erase ⟨0, true, 0, 120, 40000⟩) run)).nvs.flight with
      | .program p => p.endsAt == 61060 && p.bytes.length == 1396
      | _ => false) = true := by
  decide +kernel

/-- The record of slot 2,559 in 'ring recovery after a cranking dip': its check word is 403. -/
theorem test_odometer_record :
    odoRecord 1499900 7002 = [0xFC, 0xE2, 0x16, 0x00, 0x5A, 0x1B, 0x93, 0x01] ∧ validOdo (odoRecord 1499900 7002) = true := by
  decide +kernel

theorem wit_ProgramsEndVerifiedOrDropped :
    (Awake (flying (.program (prog .odo 0x2000 (odoRecord 1499900 7002) 120)) run) ∧
      MemoriesCanonical (flying (.program (prog .odo 0x2000 (odoRecord 1499900 7002) 120)) run) ∧
      ProgramRan (flying (.program (prog .odo 0x2000 (odoRecord 1499900 7002) 120)) run) 120 .odo
        (prog .odo 0x2000 (odoRecord 1499900 7002) 120)) ∧
      ProgramRan (flying (.program (prog .cal 0x1FF0 (List.replicate 16 0) 240)) run) 240 .cal
        (prog .cal 0x1FF0 (List.replicate 16 0) 240) ∧
      ProgramRan (flying (.program (prog .sets 0 (List.replicate 8 0) 120)) run) 120 .sets
        (prog .sets 0 (List.replicate 8 0) 120) ∧
      ({ run with psc := { run.psc with low := true } }).psc.low = true ∧
      verifies run (prog .odo 0x2000 (List.replicate 8 0) 120) ⟨[], [1]⟩ = false ∧ instant 119 run < 120 := by
  unfold Awake MemoriesCanonical ProgramRan; decide +kernel

theorem wit_ProgramsEndVerifiedOrDropped_snap :
    ProgramRan (flying (.program (prog .snap 0xDF00 (List.replicate 9 0) 3840)) run) 3840 .snap
        (prog .snap 0xDF00 (List.replicate 9 0) 3840) ∧ 9 ≤ (List.replicate 9 (0 : Byte)).length := by
  unfold ProgramRan; decide +kernel

/-- An ODO program runs out over the erase of sector 13, with a CAL pending; and a CAL program with an ODO pending. -/
def overErase (p : Prog) (odo : Bool) : State :=
  let s := flying (.suspended ⟨13, false, 0, 0, 28000⟩ p) run
  { s with nvs := { s.nvs with
    odo := if odo then some ⟨0, 0⟩ else none, cal := if odo then none else some (⟨7777, false⟩, ⟨0, 0⟩) } }

theorem wit_ProgramsEndVerifiedOrDropped_over :
    (Awake (overErase (prog .odo 0x2000 (odoRecord 1499900 7002) 120) false) ∧
      MemoriesCanonical (overErase (prog .odo 0x2000 (odoRecord 1499900 7002) 120) false) ∧
      ProgramRanOver (overErase (prog .odo 0x2000 (odoRecord 1499900 7002) 120) false) 120 .odo ⟨13, false, 0, 0, 28000⟩
        (prog .odo 0x2000 (odoRecord 1499900 7002) 120) ∧ 0x2000 ≤ 0x2000 ∧
      Memory.blank run.nvs.array (calAddr 0) 16 = true) ∧
      ProgramRanOver (overErase (prog .cal 0x1FF0 (calRecord ⟨7777, true⟩ 255) 240) true) 240 .cal ⟨13, false, 0, 0, 28000⟩
        (prog .cal 0x1FF0 (calRecord ⟨7777, true⟩ 255) 240) ∧
      isDue run (odoSector 0) = false ∧ 13 ≠ odoSector 0 ∧ Memory.blank run.nvs.array (odoAddr 0) 8 = true ∧
      0x1FF0 + (calRecord ⟨7777, true⟩ 255).length ≤ 0x2000 := by
  unfold Awake MemoriesCanonical ProgramRanOver; decide +kernel

/-- The CAL starts over the same erase, whose 28 ms stay; with nothing pending the erase runs on from this instant. -/
theorem test_program_end_over_erase :
    (match (after (.odoProgramEnd 120 ⟨[], []⟩)
        (overErase (prog .odo 0x2000 (odoRecord 1499900 7002) 120) false)).nvs.flight with
      | .suspended e p => e.remaining == 28000 && p.kind == .cal && p.endsAt == 360
      | _ => false) = true ∧
      (after (.odoProgramEnd 120 ⟨[], []⟩)
        (flying (.suspended ⟨13, false, 0, 0, 28000⟩ (prog .odo 0x2000 (odoRecord 1499900 7002) 120)) run)).nvs.flight =
          .erase ⟨13, false, 0, 120, 28000⟩ := by
  decide +kernel

/-- A CAL program that failed once, in LOW, with the CALIBRATE order of slot 2 waiting for it. -/
def failing : State :=
  let s := flying (.program { prog .cal 0x1000 (List.replicate 16 0) 240 with failures := 1 }) run
  { s with
    psc := { s.psc with low := true }
    lnk := { s.lnk with orders := vset s.lnk.orders 2 ⟨.calibrating, 0, 1, 0⟩ } }

theorem wit_ProgramsEndVerifiedOrDropped_second :
    Awake failing ∧ MemoriesCanonical failing ∧ failing.psc.low = true ∧
      failing.nvs.flight = .program { prog .cal 0x1000 (List.replicate 16 0) 240 with failures := 1 } ∧
      verifies failing { prog .cal 0x1000 (List.replicate 16 0) 240 with failures := 1 } ⟨[], [1]⟩ = false ∧
      (failing.orderSlot 2).progress ∈ ordersOf .cal := by
  unfold Awake MemoriesCanonical; decide +kernel

/-- A CAL and a SETS program that fail with LOW clear: the CAL in the last slot but one, and the SETS for the second time. -/
theorem wit_ProgramsEndVerifiedOrDropped_retry :
    (∀ p, p = { prog .cal 0x1FE0 (calRecord ⟨7777, true⟩ 254) 240 with slot := 254 } →
      Awake (flying (.program p) run) ∧ MemoriesCanonical (flying (.program p) run) ∧
        mayStart (flying (.program p) run) = true ∧ StoreIdle (flying (.program p) run) ∧ p.endsAt ≤ instant 240 run ∧
        verifies (flying (.program p) run) p ⟨[], [1]⟩ = false ∧ p.slot < 255 ∧
        p.addr + p.bytes.length ≤ calAddr (p.slot + 1) ∧ Memory.blank run.nvs.array (calAddr (p.slot + 1)) 16 = true) ∧
      ∀ p, p = { prog .sets 0 (List.replicate 8 0) 120 with failures := 1 } →
        verifies (flying (.program p) run) p ⟨[], [1]⟩ = false := by
  unfold Awake MemoriesCanonical StoreIdle
  simp only [forall_eq]
  decide +kernel

/-- The retry goes to slot 255 at once; a SETS that fails once more is dropped. -/
theorem test_retry_at_once :
    (match (after (.calProgramEnd 240 ⟨[], [1]⟩)
        (flying (.program { prog .cal 0x1FE0 (calRecord ⟨7777, true⟩ 254) 240 with slot := 254 }) run)).nvs.flight with
      | .program p => p.slot == 255 && p.failures == 1 && p.endsAt == 480
      | _ => false) = true ∧
      (after (.setsProgramEnd 120 ⟨[], [1]⟩)
        (flying (.program { prog .sets 0 (List.replicate 8 0) 120 with failures := 1 }) run)).nvs.faults.sets = true := by
  decide +kernel

/-- Its second verify failure completes the order FAILED, detail VERIFY (2). -/
theorem test_second_failure :
    ((after (.calProgramEnd 240 ⟨[], [1]⟩) failing).orderSlot 2).result = 0x06 ∧
      ((after (.calProgramEnd 240 ⟨[], [1]⟩) failing).orderSlot 2).detail = 2 := by
  decide +kernel

/-- A verified program leaves its record and moves the pointer; a misread one waits for its retry in the next slot. -/
theorem test_odo_program_end :
    arrayByte (after (.odoProgramEnd 120 ⟨[], []⟩)
        (flying (.program (prog .odo 0x2000 (odoRecord 1499900 7002) 120)) run)) 0x2006 = 0x93 ∧
      (after (.odoProgramEnd 120 ⟨[], []⟩)
        (flying (.program (prog .odo 0x2000 (odoRecord 1499900 7002) 120)) run)).nvs.odoPtr = 1 := by
  decide +kernel

/-! ### Power states -/

/-- An array whose last odometer slot and last calibration slot are valid. -/
def storedArray : Memory :=
  Memory.writeList 0xFF (Memory.writeList 0xFF [] (odoAddr 4095) (odoRecord 1499900 7002)) (calAddr 255)
    (calRecord ⟨7777, true⟩ 255)

/-- LOADING over it. -/
def stored : State := { part .loading with nvs := Nvs.reset storedArray [] }

theorem wit_LoadingReadsTheStoreBack :
    (Awake stored ∧ MemoriesCanonical stored ∧ stored.psc.power = .loading) ∧
      (storedRecord stored (odoAddr 4095) 8 = some (odoRecord 1499900 7002) ∧ validOdo (odoRecord 1499900 7002) = true) ∧
      (storedCal stored 255 = some (calRecord ⟨7777, true⟩ 255) ∧
        validCal (calRecord ⟨7777, true⟩ 255) = true) ∧
      slotFilled stored (cursorSlot stored) = false ∧ run.psc.power ≠ .loading := by
  unfold Awake MemoriesCanonical; decide +kernel

/-- The one valid odometer record stands in the last slot, and the search for a blank one wraps to slot 0. -/
theorem wit_LoadingReadsTheStoreBack_pointers :
    OdoWins stored 4095 (odoRecord 1499900 7002) ∧
      FirstBlankFrom (fun q => Memory.blank stored.nvs.array (odoAddr q) 8) 4096 4096 0 ∧ StoreIdle stored ∧
      stored.nvs.flight = .none ∧ stored.nvs.odo = none ∧ stored.nvs.cal = none := by
  have h : (List.range 4096).all (fun q => q == 4095 || Memory.blank stored.nvs.array (odoAddr q) 8) = true := by
    decide +kernel
  refine ⟨⟨by decide +kernel, by decide +kernel, fun q hq hne cs hcs => ?_⟩,
    ⟨0, by decide, by decide, by decide +kernel, fun j hj => absurd hj (Nat.not_lt_zero j)⟩,
    by unfold StoreIdle; decide +kernel, by decide, by decide, by decide⟩
  have hb := List.all_eq_true.mp h q (List.mem_range.mpr hq)
  have hq' : (q == 4095) = false := by simpa using hne
  rw [hq', Bool.false_or] at hb
  simp [storedRecord, hb] at hcs

/-- A CAL record without its last two words is skipped where a reset cut it off (R159), and is valid where its cells failed
(R147): the check matches in both. -/
theorem test_cal_cut_off :
    ((latestCal (cutProgram (prog .cal (calAddr 0) (calRecord ⟨7777, true⟩ 0) 240) (tick 120 (part .loading)))).isNone ∧
      (latestCal (landProgram (prog .cal (calAddr 0) (calRecord ⟨7777, true⟩ 0) 240)
        ⟨List.replicate 8 0 ++ List.replicate 8 0xFF, []⟩ (part .loading))).isSome) = true := by
  decide +kernel

/-- A reset one µs before the first word's end notes nothing, and nothing is noted once every word has its 60 µs. -/
theorem test_cal_cut_ends :
    [59, 60, 239, 240].map (fun t => (cutProgram (prog .cal (calAddr 0) (calRecord ⟨7777, true⟩ 0) 240)
      (tick t (part .loading))).nvs.calCut) = [[], [0], [0], []] := by
  decide +kernel

/-- LOADING over an array that holds one record. -/
def loadingOver (a : Nat) (bytes : List Byte) : State :=
  { part .loading with nvs := Nvs.reset (Memory.writeList 0xFF [] a bytes) [] }

/-- An image of one section, section 1. -/
def oneSection : List Byte :=
  le 2 imageSignature ++ le 2 44 ++ le 2 1 ++
    le 2 (checkWord (imageSignature + 44 + 1 + wordSum ([1, 1, 32, 0] ++ List.replicate 32 0))) ++
    [1, 1, 32, 0] ++ List.replicate 32 0

theorem wit_LoadingReadsTheStoreBack_image :
    validImage (arrayBytes (loadingOver 0 oneSection) 0 4096) = true ∧
      FirstCopy (arrayBytes (loadingOver 0 oneSection) 0 4096) 0 1 := by
  refine ⟨by decide +kernel, by decide +kernel, fun j h => ?_, by decide +kernel, fun j h => absurd h (Nat.not_lt_zero j)⟩
  obtain rfl := Nat.le_zero.mp h
  decide +kernel

/-- A snapshot of sequence 7, with 5 units on trip A, in the last record. -/
def restorable : State :=
  loadingOver (snapAddr 63)
    (snapRecord { run with nvs := { run.nvs with snapSeq := 7 }, spd := { run.spd with tripA := 5 } })

theorem wit_LoadingReadsTheStoreBack_snapshot :
    validSnap (arrayBytes restorable (snapAddr 63) 256) = true ∧ restorable.spd.moving = false ∧
      (∀ q, q < 63 → storedRecord restorable (snapAddr q) 256 = none) ∧
      ∀ j, j < 64 → storedRecord stored (snapAddr j) 256 = none := by
  decide +kernel

theorem wit_LoadingReadsTheStoreBack_snapPointer :
    SnapWins restorable 63 (arrayBytes restorable (snapAddr 63) 256) ∧
      FirstBlankFrom (fun q => Memory.blank restorable.nvs.array (snapAddr q) 256) 64 64 0 := by
  have h := wit_LoadingReadsTheStoreBack_snapshot
  refine ⟨⟨by decide +kernel, h.1, fun q hq hne cs hcs => ?_⟩,
    ⟨0, by decide, by decide, by decide +kernel, fun j hj => absurd hj (Nat.not_lt_zero j)⟩⟩
  rw [h.2.2.1 q (by omega)] at hcs
  exact absurd hcs (by simp)

/-- Trip A of the snapshot reaches SPD, and the next sequence follows it. -/
theorem test_load_snapshot : (loadSnap restorable).spd.tripA = 5 ∧ (loadSnap restorable).nvs.snapSeq = 8 := by
  decide +kernel

/-- The raw level of the ignition differs from IGN since instant 0. -/
def turning (p : Power) (ign : Bool) : State := { part p with psc := { (part p).psc with ign := ign, ignRun := some 0 } }

theorem wit_IgnitionMovesThePowerState :
    (Awake (turning .loading false) ∧ (turning .loading false).psc.power = .loading ∧
      lasted (instant 50000 run) 50000 (turning .loading false).psc.ignRun = true ∧
      lasted (instant 49999 run) 50000 (turning .loading false).psc.ignRun = false) ∧
      ((turning .standby false).psc.power = .standby ∧ (turning .standby false).psc.ign = false ∧
        ((turning .standby false).channel 0).state = .unhomed) ∧
      ((turning .normal true).psc.power = .normal ∧ (turning .normal true).psc.ign = true) ∧
      ({ part .proof with psc := { (part .proof).psc with proofTimer := some 9 } }.psc.power = .proof ∧
        expired (instant 9 run) (some 9) = true ∧ expired (instant 8 run) (some 9) = false ∧
        run.ttu.queue = [] ∧ run.ttu.blink < 8) ∧
      (StoreLaw (turning .normal true) ∧ (withLine .lost (turning .standby false)).tlr.line ≠ .unknown ∧
        (turning .standby false).tlr.line = .unknown ∧ gaugeSource (hostGauge .standby) 0 = .host ∧
        ((hostGauge .standby).channel 0).mode ≠ .hold) ∧
      ((turning .normal true).nvs.snap = none ∧ (turning .normal true).nvs.flight = .none ∧
        (turning .normal true).nvs.active = true ∧ (turning .normal true).psc.low = false ∧
        (turning .normal true).nvs.odo = none ∧ (turning .normal true).nvs.cal = none ∧
        isDue (turning .normal true) (snapSector (turning .normal true).nvs.snapPtr) = false ∧
        Memory.blank (turning .normal true).nvs.array (snapAddr (turning .normal true).nvs.snapPtr) 256 = true) := by
  unfold Awake StoreLaw StoreIdle; decide +kernel

/-- A key turned on enters PROOF and homes; turned off it enters STANDBY and releases nothing but the POWER record. -/
theorem test_key :
    (after (.runEntry 50000 []) (turning .standby false)).psc.power = .proof ∧
      ((after (.runEntry 50000 []) (turning .standby false)).channel 7).state = .homing ∧
      (after (.standbyEntry 50000 []) (turning .normal true)).psc.power = .standby ∧
      (after (.standbyEntry 50000 []) (turning .normal true)).lnk.journal[0].kind = .power := by
  decide +kernel

/-- The supply indication differs from the LOW flag since instant 0. -/
def dipping (low : Bool) : State :=
  { run with psc := { run.psc with low := low, supplyRun := some 0, lowTimer := if low then some 500000 else none } }

theorem wit_LowSupply :
    (Awake (dipping false) ∧ (dipping false).psc.low = false ∧
      lasted (instant 2000 run) 2000 (dipping false).psc.supplyRun = true ∧
      lasted (instant 1999 run) 2000 (dipping false).psc.supplyRun = false) ∧
      (Awake (dipping true) ∧ (dipping true).psc.low = true ∧ (dipping true).psc.lowAssert = false ∧ inRun (dipping true) = true ∧
        ((dipping true).causeOf 51).state = .clear) ∧
      (expired (instant 500000 run) (dipping true).psc.lowTimer = true ∧
        expired (instant 499999 run) (dipping true).psc.lowTimer = false) ∧
      ((playing 7 1 run).ttu.queue.length ≤ 15 ∧ (dipping false).nvs.flight = .none) ∧
      (flying (.suspended ⟨0, true, 1, 0, 28000⟩ (prog .odo 0x2000 [] 120)) (dipping false)).nvs.flight =
        .suspended ⟨0, true, 1, 0, 28000⟩ (prog .odo 0x2000 [] 120) := by
  unfold Awake; decide +kernel

/-- LOW that clears with two requests waiting, of causes 7 and 8, on a sounder that is silent or in its gap. -/
def muted (silence : Option Nat) : State :=
  let s := withCause 8 .active (withCause 7 .active (dipping true))
  { s with ttu := { s.ttu with silence := silence, queue := [(firstPeriod 7 1).request, (firstPeriod 8 1).request] } }

theorem wit_LowSupply_chime :
    (muted none).ttu.playing = none ∧ StoreIdle (muted none) ∧ (muted none).psc.power = .normal ∧
      (muted none).ttu.queue.map Request.cause = [7, 8] ∧ (muted (some 9000)).ttu.silence ≠ none := by
  unfold StoreIdle; decide +kernel

/-- The head starts at once, in either order of the blocks; in the gap it waits. -/
theorem test_low_clear_chime :
    ((after (.lowClear 2000 []) (muted none)).ttu.playing.map fun p => p.request.cause) = some 7 ∧
      ((after (.lowClear 2000 [.psc]) (muted none)).ttu.queue.map Request.cause) = [8] ∧
      (after (.lowClear 2000 []) (muted (some 9000))).ttu.playing = none := by
  decide +kernel

/-- LOW stands after 2 ms, and its timer's expiry raises cause 51. -/
theorem test_low :
    (after (.lowSet 2000) (dipping false)).psc.lowTimer = some 502000 ∧
      ((after (.lowSupplyTimerExpiry 500000) (dipping true)).causeOf 51).state = .active := by
  decide +kernel

/-! ### What every command keeps

The premises of the four statements about every step hold at `State.reset` and the step there answers a next state. -/

theorem wit_EveryStepKeepsTheMemoriesAndTheBacklog :
    step State.reset = .next State.reset ∧ MemoriesCanonical State.reset := by
  unfold MemoriesCanonical; exact ⟨rfl, by decide⟩

/-- The worked journal has an entry of each of three kinds waiting. -/
theorem wit_EveryStepKeepsTheMemoriesAndTheBacklog_backlog : BacklogLaw fullJournal := by
  unfold BacklogLaw; decide +kernel

theorem wit_EveryStepKeepsTheChimeLaw : ChimeLaw (playing 7 1 (withCause 7 .active run)) := by
  unfold ChimeLaw requests; decide +kernel

theorem wit_EveryStepKeepsTheCalibration :
    CalibrationLaw { run with nvs := { run.nvs with locked := true } } ∧ SpeedRanges run ∧ StoreLaw run := by
  unfold CalibrationLaw SpeedRanges StoreLaw StoreIdle; decide +kernel

theorem wit_EveryStepKeepsTheAccountsAndTheOrders :
    DriveLaw run ∧ OneDriver (slotWith 0 .drive 1 1 1 0 0 false run) ∧ OrderLaw (presetAt 5 5) := by
  unfold DriveLaw OneDriver OrderLaw; decide +kernel

theorem wit_EveryStepKeepsTheAccountsAndTheOrders_assertions :
    AssertionLaw run ∧ LineLaw (withCause 44 .active (withLine .lost run)) ∧ FreshLaw (hosted .stale) := by
  unfold AssertionLaw DrivingRight ImpliedRight LineLaw FreshLaw; decide +kernel

theorem wit_EveryStepKeepsTheAccountsAndTheOrders_implied : ImpliedLaw run := by
  unfold ImpliedLaw
  refine ⟨by decide, fun i => ⟨?_, ?_⟩⟩
  · revert i; decide +kernel
  · have h : ∀ i : Fin 2, (run.driver i).report = none := by decide +kernel
    simp [h i]

end Sys2Proof.Tests
end

section
/-! SUPPORT. What SPD's gates, distance and offers do to the state (R7–R9, R12, R15–R17), one equation per operation. -/

namespace Sys2Proof.Machine

/-! ### Gates and v_pub -/

theorem evalOverspeed_spd (s : State) :
    (evalOverspeed s).spd = { s.spd with
      overspeed := overspeedDecision (overspeedThreshold s) s.spd.vPub s.spd.overspeed } := by
  simp [evalOverspeed]

theorem evalNoise_spd (r : Nat) (s : State) :
    (evalNoise r s).spd = { s.spd with noise := noiseDecision r s.spd.noise } := by
  simp [evalNoise]

theorem openGate_spd (s : State) :
    (openGate s).spd = { s.spd with gate := some { openedAt := s.now, n := 0, rejected := 0 } } := rfl

/-- The published speed and the hold count that a gate of n edges leaves when it closes now (R7, R8). -/
def closedSpeed (g : Gate) (n : Nat) (s : State) : Nat × Nat :=
  publish (s.spd.gateState == .running) (jumpLimit s) (gateSpeed n s.nvs.pulse (s.now - g.openedAt)) s.spd.vPub s.spd.hold

theorem closeGate_spd (g : Gate) (n : Nat) (s : State) :
    (closeGate g n s).spd = { s.spd with
      gateState := .running, lastN := n, lastTsum := s.now - g.openedAt
      gate := some { openedAt := s.now, n := 0, rejected := 0 }
      vPub := (closedSpeed g n s).1, hold := (closedSpeed g n s).2
      noise := noiseDecision g.rejected s.spd.noise, overspeed := (closeGate g n s).spd.overspeed } := by
  simp [closeGate, evalOverspeed_spd, evalNoise_spd, openGate_spd, closedSpeed]

/-- The gate leaves the distance, the edge times and the total of rejected edges as they were. -/
theorem gateEdge_spd (s : State) :
    (gateEdge s).spd = { (gateEdge s).spd with
      lastEdge := s.spd.lastEdge, stallTimer := s.spd.stallTimer, rejected := s.spd.rejected
      remainder := s.spd.remainder, odometer := s.spd.odometer, tripA := s.spd.tripA, tripB := s.spd.tripB } := by
  unfold gateEdge
  split
  next => rfl
  next g _ =>
    dsimp only
    split
    next => rw [closeGate_spd]
    next => rfl

theorem gateEdge_of_due {s : State} {g : Gate} (hg : s.spd.gate = some g) (due : g.openedAt + gateTime s ≤ s.now) :
    gateEdge s = closeGate g (satAdd 65535 g.n 1) s := by
  simp [gateEdge, hg, due]

/-! ### Distance -/

theorem countUnit_spd (s : State) :
    (countUnit s).spd = { s.spd with
      odometer := min 999999999 (s.spd.odometer + 1), tripA := tripNext s.spd.tripA, tripB := tripNext s.spd.tripB } := by
  unfold countUnit
  dsimp only
  split <;> simp [satAdd, odometerMax]

theorem addDistance_spd_of_unit {s : State} (h : s.nvs.pulse ≤ s.spd.remainder + 100) :
    (addDistance s).spd = { s.spd with
      remainder := s.spd.remainder + 100 - s.nvs.pulse, odometer := min 999999999 (s.spd.odometer + 1)
      tripA := tripNext s.spd.tripA, tripB := tripNext s.spd.tripB } := by
  simp [addDistance, h, countUnit_spd]

theorem addDistance_spd_of_no_unit {s : State} (h : ¬s.nvs.pulse ≤ s.spd.remainder + 100) :
    (addDistance s).spd = { s.spd with remainder := s.spd.remainder + 100 } := by
  simp [addDistance, h]

/-- The distance leaves the gate and the speed as they were. -/
theorem addDistance_speed (s : State) :
    (addDistance s).spd = { s.spd with
      remainder := (addDistance s).spd.remainder, odometer := (addDistance s).spd.odometer
      tripA := (addDistance s).spd.tripA, tripB := (addDistance s).spd.tripB } := by
  by_cases h : s.nvs.pulse ≤ s.spd.remainder + 100
  · rw [addDistance_spd_of_unit h]
  · rw [addDistance_spd_of_no_unit h]

/-! ### Offers (R12, R28) -/

theorem channel_congr {s u : State} (h : u.gau = s.gau) (c : Fin 8) : u.channel c = s.channel c := by
  unfold State.channel
  rw [h]

theorem noteBad_x (c d : Fin 8) (b : Bool) (s : State) : ((noteBad c b s).channel d).x = (s.channel d).x := by
  unfold noteBad
  rw [State.setChannel_channel]
  split <;> simp_all

theorem sendAssertion_channel (n : Fin 53) (g : Option Nat) (a b : Bool) (s : State) (d : Fin 8) :
    (sendAssertion n g a b s).channel d = s.channel d := channel_congr (by simp) d

/-- A threshold evaluation leaves every x as it was. -/
theorem thresholdEvaluation_x (c d : Fin 8) (s : State) : ((thresholdEvaluation c s).channel d).x = (s.channel d).x := by
  unfold thresholdEvaluation
  split
  · dsimp only
    rw [sendAssertion_channel]
    have hset : ∀ w : Bool, ((s.setChannel c { s.channel c with warning := w }).channel d).x = (s.channel d).x := by
      intro w
      rw [State.setChannel_channel]
      split <;> simp_all
    split <;> simp only [noteBad_x, hset]
  · rfl

theorem gaugeSource_congr {s u : State} (h : u.host = s.host) (c : Fin 8) : gaugeSource u c = gaugeSource s c := by
  unfold gaugeSource hostByte
  rw [h]

theorem offerTo_x (v : Nat) (c d : Fin 8) (s : State) :
    ((offerTo v c s).channel d).x = if d = c ∧ gaugeSource s c = .speed then v else (s.channel d).x := by
  have hsource : gaugeSource (noteBad c (badSource s c) s) c = gaugeSource s c := gaugeSource_congr (by simp) c
  unfold offerTo
  dsimp only
  rw [hsource]
  by_cases hs : gaugeSource s c = .speed
  · rw [if_pos hs, thresholdEvaluation_x, State.setChannel_channel]
    by_cases hd : d = c <;> simp [hd, hs, noteBad_x]
  · simp [hs, noteBad_x]

/-- A run of offers: each channel of the list whose source is SPEED takes the value. -/
theorem offers_x (v : Nat) (d : Fin 8) (l : List (Fin 8)) (s : State) :
    ((l.foldl (fun s c => offerTo v c s) s).channel d).x =
      if d ∈ l ∧ gaugeSource s d = .speed then v else (s.channel d).x := by
  induction l generalizing s with
  | nil => simp
  | cons c l ih =>
    rw [List.foldl_cons, ih, gaugeSource_congr (show (offerTo v c s).host = s.host by simp), offerTo_x]
    grind

theorem offer_x (v : Nat) (d : Fin 8) (s : State) :
    ((offer v s).channel d).x = if gaugeSource s d = .speed then v else (s.channel d).x := by
  unfold offer forChannels
  simpa using offers_x v d (List.finRange 8) s

theorem closeGate_x (g : Gate) (n : Nat) (s : State) (c : Fin 8) :
    ((closeGate g n s).channel c).x = if gaugeSource s c = .speed then (closedSpeed g n s).1 else (s.channel c).x := by
  unfold closeGate
  dsimp only
  rw [channel_congr (evalOverspeed_frame _).2.2.1, offer_x, gaugeSource_congr (u := evalNoise _ _) (s := s) (by simp),
    channel_congr (u := evalNoise _ _) (s := s) (by simp)]
  simp [evalNoise_spd, openGate_spd, closedSpeed]

/-! ### Edges -/

/-- An accepted edge at its instant (R5). -/
theorem exec_speedEdge_of_accepted {s : State} {t : Nat} {rising : Bool} (h : Accepted t rising s) :
    exec (.speedEdge t rising) s = .next (acceptEdge (tick t s)) := by
  obtain ⟨awake, run, qualifies, gap⟩ := h
  have hrun : inRun (tick t s) = true := run
  have hqualifies : edgeQualifies (tick t s) rising = true := qualifies
  have htransition : speedTransition rising (tick t s) = acceptEdge (tick t s) := by
    simp [speedTransition, hrun, hqualifies, gap]
  calc exec (.speedEdge t rising) s = live t (speedTransition rising) s := rfl
    _ = .next (acceptEdge (tick t s)) := by rw [live_awake awake, htransition]

end Sys2Proof.Machine
end

section
/-! SUPPORT. What the placement of an ODO request does (R17, R154, R155), and that no placement touches the note of the
calibration slots that a reset cut off (log entry 36). -/

namespace Sys2Proof.Machine

/-! ### The note of cut-off calibration slots -/

/-- No placement of a request touches the model's note of the calibration slots that a reset cut off (log entry 36). -/
theorem enterSector_calCut (x : Nat) (s : State) : (enterSector x s).nvs.calCut = s.nvs.calCut := by
  unfold enterSector
  split <;> rfl

theorem advanceOdo_calCut (s : State) : (advanceOdo s).nvs.calCut = s.nvs.calCut := by
  unfold advanceOdo
  dsimp only
  split <;> simp [enterSector_calCut]

theorem advanceSnap_calCut (s : State) : (advanceSnap s).nvs.calCut = s.nvs.calCut := by
  unfold advanceSnap
  dsimp only
  split <;> simp [enterSector_calCut]

theorem seekOdo_calCut (n : Nat) (s : State) : (seekOdo n s).1.nvs.calCut = s.nvs.calCut := by
  induction n generalizing s with
  | zero => rfl
  | succ n ih =>
    unfold seekOdo
    split
    · rfl
    · split
      · rfl
      · rw [ih, advanceOdo_calCut]

theorem seekSnap_calCut (n : Nat) (s : State) : (seekSnap n s).1.nvs.calCut = s.nvs.calCut := by
  induction n generalizing s with
  | zero => rfl
  | succ n ih =>
    unfold seekSnap
    split
    · rfl
    · split
      · rfl
      · rw [ih, advanceSnap_calCut]

theorem launch_calCut (e : Option EraseOp) (p : Prog) (s : State) : (launch e p s).nvs.calCut = s.nvs.calCut := rfl

theorem dropRequest_calCut (k : Kind) (x : Nat) (b : Bool) (s : State) :
    (dropRequest k x b s).nvs.calCut = s.nvs.calCut := by
  simp [dropRequest, setFault, evalStoreFault]

theorem tryOdo_calCut (e : Option EraseOp) (s : State) : (tryOdo e s).1.nvs.calCut = s.nvs.calCut := by
  unfold tryOdo
  split
  · rfl
  · dsimp only
    split <;> simp [seekOdo_calCut, launch_calCut]

theorem tryCal_calCut (e : Option EraseOp) (s : State) : (tryCal e s).1.nvs.calCut = s.nvs.calCut := by
  unfold tryCal
  split
  · rfl
  · dsimp only
    split
    · split <;> simp [dropRequest_calCut]
    · simp [launch_calCut]

theorem trySnap_calCut (s : State) : (trySnap s).1.nvs.calCut = s.nvs.calCut := by
  unfold trySnap
  split
  · rfl
  · dsimp only
    split <;> simp [seekSnap_calCut, launch_calCut]

theorem startErase_calCut (x : Nat) (b : Bool) (f : Nat) (s : State) :
    (startErase x b f s).nvs.calCut = s.nvs.calCut := rfl

theorem startNext_calCut (s : State) : (startNext s).nvs.calCut = s.nvs.calCut := by
  unfold startNext
  dsimp only
  repeat' split
  all_goals simp [tryOdo_calCut, tryCal_calCut, trySnap_calCut, startErase_calCut]

theorem placeOdo_calCut (s : State) : (placeOdo s).nvs.calCut = s.nvs.calCut := by
  unfold placeOdo arrival
  repeat' split
  all_goals simp [tryOdo_calCut, startNext_calCut]

theorem countUnit_calCut (s : State) : (countUnit s).nvs.calCut = s.nvs.calCut := by
  unfold countUnit
  dsimp only
  split <;> simp [placeOdo_calCut]

theorem addDistance_calCut (s : State) : (addDistance s).nvs.calCut = s.nvs.calCut := by
  unfold addDistance
  dsimp only
  split <;> simp [countUnit_calCut]

theorem acceptEdge_calCut (s : State) : (acceptEdge s).nvs.calCut = s.nvs.calCut := by
  simp [acceptEdge, addDistance_calCut]

/-! ### The placement of an ODO request (R17, R154, R155) -/

/-- The state with an ODO request placed (R154). -/
def withOdoRequest (s : State) : State := s.setNvs { s.nvs with odo := some ⟨0, 0⟩ }

/-- A request that is pending, or LOW or a program in flight, keeps the placed request waiting. -/
theorem placeOdo_of_waiting {s : State}
    (h : s.nvs.odo.isSome = true ∨ s.psc.low = true ∨ ∃ p, s.nvs.flight = .program p) :
    (placeOdo s).nvs = { s.nvs with odo := (placeOdo s).nvs.odo } ∧ (placeOdo s).nvs.odo.isSome = true := by
  by_cases hodo : s.nvs.odo.isSome = true
  · have heq : placeOdo s = s := by simp [placeOdo, hodo]
    rw [heq]
    exact ⟨rfl, hodo⟩
  · have hpend : placeOdo s = withOdoRequest s := by
      rcases h with hsome | hlow | ⟨p, hp⟩
      · exact absurd hsome hodo
      · simp [placeOdo, hodo, arrival, mayStart, hlow, withOdoRequest]
      · simp [placeOdo, hodo, arrival, hp, withOdoRequest]
    rw [hpend]
    exact ⟨rfl, rfl⟩

theorem seekOdo_of_ready {s : State} (n : Nat) (busy : sectorBusy s (odoSector s.nvs.odoPtr) = false)
    (blank : Memory.blank s.nvs.array (odoAddr s.nvs.odoPtr) 8 = true) : seekOdo (n + 1) s = (s, true) := by
  simp [seekOdo, busy, blank]

/-- The program of the odometer record that starts now at the write pointer (R144, R145). -/
def odoProgram (s : State) : Prog :=
  { kind := .odo, slot := s.nvs.odoPtr, addr := odoAddr s.nvs.odoPtr, bytes := odoRecord s.spd.odometer s.nvs.odoSeq
    startedAt := s.now, endsAt := s.now + 120, failures := 0, content := ⟨0, false⟩ }

/-- The placed request starts where nothing hinders it (R145, R155). -/
theorem tryOdo_of_free {s : State} (flight : s.nvs.flight = .none) (due : isDue s (odoSector s.nvs.odoPtr) = false)
    (blank : Memory.blank s.nvs.array (odoAddr s.nvs.odoPtr) 8 = true) :
    tryOdo none (withOdoRequest s) = (moveOrders .presetWaiting .presetArmed (launch none (odoProgram s)
      (s.setNvs { s.nvs with odo := none, odoSeq := (s.nvs.odoSeq + 1) % 65536 })), true) := by
  have hfree : sectorBusy (withOdoRequest s) (odoSector s.nvs.odoPtr) = false := by
    simpa [sectorBusy, beingErased, withOdoRequest, flight, isDue] using due
  have hseek : seekOdo 4097 (withOdoRequest s) = (withOdoRequest s, true) := seekOdo_of_ready 4096 hfree blank
  have hodo : (withOdoRequest s).nvs.odo = some ⟨0, 0⟩ := rfl
  unfold tryOdo
  simp only [hodo, hseek]
  rfl

/-- A store that is free, with a blank slot at the write pointer in a sector that is not due, starts the program at once. -/
theorem placeOdo_of_free {s : State} (odo : s.nvs.odo = none) (flight : s.nvs.flight = .none)
    (active : s.nvs.active = true) (low : s.psc.low = false) (due : isDue s (odoSector s.nvs.odoPtr) = false)
    (blank : Memory.blank s.nvs.array (odoAddr s.nvs.odoPtr) 8 = true) :
    (placeOdo s).nvs.odo = none ∧ (placeOdo s).nvs.flight = .program (odoProgram s) := by
  have hplace : placeOdo s = startNext (withOdoRequest s) := by
    simp [placeOdo, odo, arrival, mayStart, active, low, flight, withOdoRequest]
  rw [hplace, startNext, tryOdo_of_free flight due blank]
  simp [launch]

end Sys2Proof.Machine
end

section
/-! PROOF. Accepted edges and their runs (R5, R15): the statement EdgesAddDistanceExactly. -/

namespace Sys2Proof.Machine

/-! ### Accepted edges (R5, R6, R15) -/

/-- The edge becomes the last accepted edge and restarts the stall timer (R5). -/
def stampEdge (s : State) : State :=
  s.setSpd { s.spd with lastEdge := some s.now, stallTimer := some (s.now + stallWindow s) }

@[simp] theorem stampEdge_nvs (s : State) : (stampEdge s).nvs = s.nvs := rfl

theorem acceptEdge_eq (s : State) : acceptEdge s = addDistance (gateEdge (stampEdge s)) := rfl

/-- What an accepted edge leaves is what its distance adds to what the gate leaves. -/
theorem gateEdge_stampEdge_distance (s : State) :
    (gateEdge (stampEdge s)).nvs = s.nvs ∧ (gateEdge (stampEdge s)).spd.remainder = s.spd.remainder ∧
      (gateEdge (stampEdge s)).spd.odometer = s.spd.odometer ∧ (gateEdge (stampEdge s)).spd.tripA = s.spd.tripA ∧
      (gateEdge (stampEdge s)).spd.tripB = s.spd.tripB := by
  rw [gateEdge_spd]
  simp [stampEdge]

theorem acceptEdge_edgeTimes (s : State) :
    (acceptEdge s).spd.lastEdge = some s.now ∧ (acceptEdge s).spd.stallTimer = some (s.now + stallWindow s) ∧
      (acceptEdge s).spd.rejected = s.spd.rejected := by
  rw [acceptEdge_eq, addDistance_speed, gateEdge_spd]
  simp [stampEdge]

/-- An edge that completes a unit (R15, R16). -/
theorem acceptEdge_of_unit {s : State} (h : s.nvs.pulse ≤ s.spd.remainder + 100) :
    (acceptEdge s).spd.remainder = s.spd.remainder + 100 - s.nvs.pulse ∧
      (acceptEdge s).spd.odometer = min 999999999 (s.spd.odometer + 1) ∧
      (acceptEdge s).spd.tripA = tripNext s.spd.tripA ∧ (acceptEdge s).spd.tripB = tripNext s.spd.tripB := by
  obtain ⟨hnvs, hrem, hodo, hA, hB⟩ := gateEdge_stampEdge_distance s
  rw [acceptEdge_eq, addDistance_spd_of_unit (by rw [hnvs, hrem]; exact h)]
  simp [hrem, hodo, hA, hB]

/-- An edge that completes none (R15). -/
theorem acceptEdge_of_no_unit {s : State} (h : ¬s.nvs.pulse ≤ s.spd.remainder + 100) :
    (acceptEdge s).spd.remainder = s.spd.remainder + 100 ∧ (acceptEdge s).spd.odometer = s.spd.odometer ∧
      (acceptEdge s).spd.tripA = s.spd.tripA ∧ (acceptEdge s).spd.tripB = s.spd.tripB := by
  obtain ⟨hnvs, hrem, hodo, hA, hB⟩ := gateEdge_stampEdge_distance s
  rw [acceptEdge_eq, addDistance_spd_of_no_unit (by rw [hnvs, hrem]; exact h)]
  simp [hrem, hodo, hA, hB]

/-- What an accepted edge may change: SPD and, by a gate's close and a unit, GAU, TTU, NVS's requests, orders and the
journal. -/
theorem acceptEdge_onlyChanges (s : State) : OnlyChanges [.spd, .gau, .ttu, .nvs, .orders, .journal] s (acceptEdge s) := by
  refine ⟨by simp, by simp, fun p hp => ?_⟩
  cases p <;> simp_all [Part.same, acceptEdge_calCut]

/-! ### Runs of edges (R15) -/

/-- One more edge of 100 to a running sum N: it completes a unit of P exactly when the remainder reaches P. -/
theorem add_hundred_div_mod {N P : Nat} (hP : 2000 ≤ P) :
    (P ≤ N % P + 100 → (N + 100) / P = N / P + 1 ∧ (N + 100) % P = N % P + 100 - P) ∧
      (¬P ≤ N % P + 100 → (N + 100) / P = N / P ∧ (N + 100) % P = N % P + 100) := by
  have hN := Nat.div_add_mod N P
  have hlt := Nat.mod_lt N (show 0 < P by omega)
  constructor
  · intro h
    exact (Nat.div_mod_unique (by omega)).2 ⟨by rw [Nat.mul_add]; omega, by omega⟩
  · intro h
    exact (Nat.div_mod_unique (by omega)).2 ⟨by omega, by omega⟩

theorem tripNext_mod (n : Nat) : tripNext (n % 10000000) = (n + 1) % 10000000 := by
  unfold tripNext tripMax
  split <;> omega

/-- SPD's distance after edges that brought the sum of the remainder to N, from the state s (R15, R16). -/
def Counted (s u : State) (N : Nat) : Prop :=
  u.nvs.pulse = s.nvs.pulse ∧ u.spd.remainder = N % s.nvs.pulse ∧
    u.spd.odometer = min 999999999 (s.spd.odometer + N / s.nvs.pulse) ∧
    u.spd.tripA = (s.spd.tripA + N / s.nvs.pulse) % 10000000 ∧
    u.spd.tripB = (s.spd.tripB + N / s.nvs.pulse) % 10000000

theorem counted_self {s : State} (hrem : s.spd.remainder < s.nvs.pulse) (hodo : s.spd.odometer ≤ 999999999)
    (hA : s.spd.tripA ≤ 9999999) (hB : s.spd.tripB ≤ 9999999) : Counted s s s.spd.remainder := by
  refine ⟨rfl, (Nat.mod_eq_of_lt hrem).symm, ?_, ?_, ?_⟩ <;> rw [Nat.div_eq_of_lt hrem] <;> omega

/-- An accepted edge adds its 100 to the sum. -/
theorem counted_acceptEdge {s a : State} {N : Nat} (t : Nat) (hP : 2000 ≤ s.nvs.pulse) (h : Counted s a N) :
    Counted s (acceptEdge (tick t a)) (N + 100) := by
  obtain ⟨hpulse, hrem, hodo, hA, hB⟩ := h
  obtain ⟨hunit, hnone⟩ := add_hundred_div_mod (N := N) hP
  refine ⟨by simp [hpulse], ?_⟩
  by_cases hu : s.nvs.pulse ≤ N % s.nvs.pulse + 100
  · obtain ⟨hrem', hodo', hA', hB'⟩ := acceptEdge_of_unit (s := tick t a) (by simpa [hpulse, hrem] using hu)
    obtain ⟨hdiv, hmod⟩ := hunit hu
    rw [hrem', hodo', hA', hB', hdiv, hmod]
    simp only [tick_spd, tick_nvs, hrem, hpulse, hodo, hA, hB, tripNext_mod, true_and, Nat.add_assoc, and_true]
    omega
  · obtain ⟨hrem', hodo', hA', hB'⟩ := acceptEdge_of_no_unit (s := tick t a) (by simpa [hpulse, hrem] using hu)
    obtain ⟨hdiv, hmod⟩ := hnone hu
    rw [hrem', hodo', hA', hB', hdiv, hmod]
    exact ⟨congrArg (· + 100) hrem, hodo, hA, hB⟩

/-- Over any run of accepted edges the distance is counted exactly (R15). -/
theorem edgeRun_counted {k : Nat} {s u : State} (h : EdgeRun k s u) (hP : 2000 ≤ s.nvs.pulse)
    (hrem : s.spd.remainder < s.nvs.pulse) (hodo : s.spd.odometer ≤ 999999999)
    (hA : s.spd.tripA ≤ 9999999) (hB : s.spd.tripB ≤ 9999999) : Counted s u (s.spd.remainder + 100 * k) := by
  induction h with
  | none s => exact counted_self hrem hodo hA hB
  | more t rising _ ok e ih =>
    rw [exec_speedEdge_of_accepted ok] at e
    cases e
    rw [Nat.mul_succ, ← Nat.add_assoc]
    exact counted_acceptEdge t hP (ih hP hrem hodo hA hB)

/-- A transition that fails the gap test adds no distance (R5, R15). -/
theorem speedTransition_of_gapFails {s : State} (rising : Bool) (h : gapFails s = true) :
    (speedTransition rising s).spd = { (speedTransition rising s).spd with
      remainder := s.spd.remainder, odometer := s.spd.odometer, tripA := s.spd.tripA, tripB := s.spd.tripB } := by
  unfold speedTransition
  rw [if_pos h]
  split <;> rfl

/-- Settles O24: the units of a run by induction on its edges, each of which adds its 100 to the sum. -/
theorem edgesAddDistanceExactly : Obligations.EdgesAddDistanceExactly := by
  unfold Obligations.EdgesAddDistanceExactly
  refine ⟨fun s t rising ok => ?_, fun s u k run hP hrem hodo hA hB => edgeRun_counted run hP hrem hodo hA hB,
    fun s t rising awake gap => ?_⟩
  · have hexec := exec_speedEdge_of_accepted ok
    obtain ⟨hlast, hstall, hrej⟩ := acceptEdge_edgeTimes (tick t s)
    refine ⟨acceptEdge (tick t s), hexec, ?_, .more t rising (.none s) ok hexec, hlast, hstall, ?_, hrej⟩
    · exact acceptEdge_onlyChanges (tick t s)
    · split
      next hunit => exact (acceptEdge_of_unit (s := tick t s) hunit).1
      next hnone => exact (acceptEdge_of_no_unit (s := tick t s) hnone).1
  · refine ⟨speedTransition rising (tick t s), live_awake awake t _, ?_⟩
    rw [speedTransition_of_gapFails rising gap]
    exact ⟨rfl, rfl, rfl, rfl⟩

end Sys2Proof.Machine
end

section
/-! PROOF. The close of a gate (R7–R9, R12), the statement GateCloseComputesTheSpeed, and the unit of an accepted edge
(R16, R17). -/

namespace Sys2Proof.Machine

/-! ### The close of a gate (R7–R9, R12) -/

theorem publish_of_not_running (jump v vPub hold : Nat) : publish false jump v vPub hold = (v, 0) := rfl

theorem publish_of_running (jump v vPub hold : Nat) :
    publish true jump v vPub hold =
      if 2 ≤ hold ∨ (v ≤ vPub + jump ∧ vPub ≤ v + jump) then (v, 0) else (vPub, hold + 1) := by
  simp [publish, or_comm]

theorem gateTime_ge (s : State) : 20000 ≤ gateTime s := by
  unfold gateTime inRange
  split <;> omega

/-- The closing edge is counted, and the gate closes in the event of the edge (R6, R7). -/
theorem gateEdge_stampEdge_of_close {s : State} {g : Gate} (hg : s.spd.gate = some g) (hn : g.n < 65535)
    (due : g.openedAt + gateTime s ≤ s.now) :
    gateEdge (stampEdge s) = closeGate g (g.n + 1) (stampEdge s) := by
  rw [gateEdge_of_due (s := stampEdge s) hg due, satAdd, Nat.min_eq_right (by omega)]

theorem closedSpeed_stampEdge (g : Gate) (n : Nat) (s : State) : closedSpeed g n (stampEdge s) = closedSpeed g n s := rfl

/-- What an accepted edge that closes the gate g leaves of it (R7–R9). -/
theorem acceptEdge_of_close {s : State} {g : Gate} (hg : s.spd.gate = some g) (hn : g.n < 65535)
    (due : g.openedAt + gateTime s ≤ s.now) :
    (acceptEdge s).spd.gateState = .running ∧ (acceptEdge s).spd.lastN = g.n + 1 ∧
      (acceptEdge s).spd.lastTsum = s.now - g.openedAt ∧
      (acceptEdge s).spd.gate = some { openedAt := s.now, n := 0, rejected := 0 } ∧
      (acceptEdge s).spd.vPub = (closedSpeed g (g.n + 1) s).1 ∧
      (acceptEdge s).spd.hold = (closedSpeed g (g.n + 1) s).2 ∧
      (acceptEdge s).spd.noise = noiseDecision g.rejected s.spd.noise := by
  rw [acceptEdge_eq, addDistance_speed, gateEdge_stampEdge_of_close hg hn due, closeGate_spd, closedSpeed_stampEdge]
  exact ⟨rfl, rfl, rfl, rfl, rfl, rfl, rfl⟩

/-- The offers at the close of a gate (R12): an edge's distance leaves GAU alone. -/
theorem acceptEdge_x_of_close {s : State} {g : Gate} (hg : s.spd.gate = some g) (hn : g.n < 65535)
    (due : g.openedAt + gateTime s ≤ s.now) (c : Fin 8) :
    ((acceptEdge s).channel c).x =
      if gaugeSource s c = .speed then (closedSpeed g (g.n + 1) s).1 else (s.channel c).x := by
  have hgau : (acceptEdge s).gau = (closeGate g (g.n + 1) (stampEdge s)).gau := by
    rw [acceptEdge_eq, gateEdge_stampEdge_of_close hg hn due]
    simp
  rw [channel_congr hgau, closeGate_x]
  rfl

/-- Settles O27, by what the closing edge leaves of the gate: the speed is computed and clamped, then published or held. -/
theorem gateCloseComputesTheSpeed : Obligations.GateCloseComputesTheSpeed := by
  unfold Obligations.GateCloseComputesTheSpeed
  intro s t rising ok g hg hn due
  obtain ⟨hstate, hlastN, hlastTsum, hgate, hvPub, hhold, hnoise⟩ := acceptEdge_of_close (s := tick t s) hg hn due
  have hx := acceptEdge_x_of_close (s := tick t s) hg hn due
  rw [← hvPub] at hx
  have hmin := gateTime_ge s
  have hTsum : gateTime s ≤ instant t s - g.openedAt := by omega
  have hspeed : closedSpeed g (g.n + 1) (tick t s) =
      publish (s.spd.gateState == .running) (jumpLimit s)
        (min 25000 (360000000000 * (g.n + 1) / (s.nvs.pulse * (instant t s - g.openedAt)))) s.spd.vPub s.spd.hold := rfl
  have hlastTsum : (acceptEdge (tick t s)).spd.lastTsum = instant t s - g.openedAt := hlastTsum
  refine ⟨acceptEdge (tick t s), exec_speedEdge_of_accepted ok, ?_⟩
  rw [hlastN, hlastTsum, hvPub, hhold, hnoise, hspeed]
  refine ⟨rfl, rfl, Nat.le_add_left 1 g.n, hTsum, hmin.trans hTsum, hstate, hgate, ?_, ?_, ?_, ?_, ?_, ?_⟩
  · intro hstopped
    simp [beq_false_of_ne hstopped, publish_of_not_running]
  · intro hrunning
    rw [beq_iff_eq.2 hrunning, publish_of_running]
    split <;> exact ⟨rfl, rfl⟩
  · intro hmany
    simp [noiseDecision, noiseThreshold, hmany]
  · intro hclean
    simp [noiseDecision, noiseThreshold, hclean]
  · intro hpos hfew
    have h8 : ¬8 ≤ g.rejected := by omega
    have h0 : g.rejected ≠ 0 := by omega
    simp [noiseDecision, noiseThreshold, h8, h0]
  · intro c
    rw [hx c, hvPub, hspeed]
    rfl

/-! ### Units (R16, R17) -/

theorem tripNext_of_lt {n : Nat} (h : n < 9999999) : tripNext n = n + 1 := by
  unfold tripNext tripMax
  rw [if_neg (by omega)]

theorem tripNext_max : tripNext 9999999 = 0 := rfl

/-- The odometer and the trips after one counted unit (R16). -/
def withUnit (s : State) : State :=
  s.setSpd { s.spd with
    odometer := satAdd odometerMax s.spd.odometer 1, tripA := tripNext s.spd.tripA, tripB := tripNext s.spd.tripB }

theorem withUnit_odometer (s : State) : (withUnit s).spd.odometer = min 999999999 (s.spd.odometer + 1) := rfl

/-- A unit that moves the odometer to a multiple of the record step places an ODO request (R17). -/
theorem countUnit_of_request {s : State} (hlt : s.spd.odometer < 999999999)
    (hstep : (s.spd.odometer + 1) % recordStep s = 0) : countUnit s = placeOdo (withUnit s) := by
  have hnext : (withUnit s).spd.odometer = s.spd.odometer + 1 := by
    rw [withUnit_odometer]
    omega
  have hcond : (withUnit s).spd.odometer ≠ s.spd.odometer ∧
      (withUnit s).spd.odometer % recordStep (withUnit s) = 0 := by
    rw [hnext]
    exact ⟨by omega, hstep⟩
  exact if_pos hcond

/-- Any other unit places none (R17). -/
theorem countUnit_of_no_request {s : State} (hle : s.spd.odometer ≤ 999999999)
    (h : (s.spd.odometer + 1) % recordStep s ≠ 0 ∨ s.spd.odometer = 999999999) : countUnit s = withUnit s := by
  refine if_neg (c := (withUnit s).spd.odometer ≠ s.spd.odometer ∧
    (withUnit s).spd.odometer % recordStep (withUnit s) = 0) ?_
  rintro ⟨hmoved, hstep⟩
  have hodo := withUnit_odometer s
  rcases h with hoff | hmax
  · have hnext : (withUnit s).spd.odometer = s.spd.odometer + 1 := by omega
    rw [hnext] at hstep
    exact hoff hstep
  · omega

/-- The state in which the unit of an accepted edge is counted. -/
def unitEdge (s : State) : State :=
  (gateEdge (stampEdge s)).setSpd
    { (gateEdge (stampEdge s)).spd with remainder := s.spd.remainder + 100 - s.nvs.pulse }

theorem acceptEdge_eq_countUnit {s : State} (h : s.nvs.pulse ≤ s.spd.remainder + 100) :
    acceptEdge s = countUnit (unitEdge s) := by
  obtain ⟨hnvs, hrem, -, -, -⟩ := gateEdge_stampEdge_distance s
  rw [acceptEdge_eq, addDistance, hnvs, hrem]
  exact if_pos h

/-- What the unit of an edge reads is as it was before the edge. -/
theorem unitEdge_reads (s : State) :
    (unitEdge s).now = s.now ∧ (unitEdge s).psc = s.psc ∧ (unitEdge s).nvs = s.nvs ∧
      (unitEdge s).spd.odometer = s.spd.odometer ∧ recordStep (unitEdge s) = recordStep s := by
  obtain ⟨hnvs, -, hodo, -, -⟩ := gateEdge_stampEdge_distance s
  have hhost : (unitEdge s).host = s.host := by simp [unitEdge, stampEdge]
  refine ⟨by simp [unitEdge, stampEdge], by simp [unitEdge, stampEdge], hnvs, hodo, ?_⟩
  unfold recordStep host16 hostByte
  rw [hhost]

/-- What the unit of an accepted edge does to NVS's requests (R17, R145, R154). -/
theorem acceptEdge_unit_nvs {s : State} (hunit : s.nvs.pulse ≤ s.spd.remainder + 100)
    (hle : s.spd.odometer ≤ 999999999) :
    ((s.spd.odometer + 1) % recordStep s ≠ 0 ∨ s.spd.odometer = 999999999 → (acceptEdge s).nvs = s.nvs) ∧
      (s.spd.odometer < 999999999 → (s.spd.odometer + 1) % recordStep s = 0 →
        (s.nvs.odo.isSome = true ∨ s.psc.low = true ∨ (∃ p, s.nvs.flight = .program p) →
          (acceptEdge s).nvs = { s.nvs with odo := (acceptEdge s).nvs.odo } ∧
            (acceptEdge s).nvs.odo.isSome = true) ∧
        (s.nvs.odo = none → s.nvs.flight = .none → s.nvs.active = true → s.psc.low = false →
          isDue s (odoSector s.nvs.odoPtr) = false → Memory.blank s.nvs.array (odoAddr s.nvs.odoPtr) 8 = true →
          (acceptEdge s).nvs.odo = none ∧ (acceptEdge s).nvs.flight = .program
            { odoProgram s with bytes := odoRecord (s.spd.odometer + 1) s.nvs.odoSeq })) := by
  obtain ⟨hnow, hpsc, hnvs, hodo, hrecord⟩ := unitEdge_reads s
  have hnvs' : (withUnit (unitEdge s)).nvs = s.nvs := hnvs
  have hpsc' : (withUnit (unitEdge s)).psc = s.psc := hpsc
  rw [acceptEdge_eq_countUnit hunit]
  constructor
  · intro h
    rw [← hodo, ← hrecord] at h
    rw [countUnit_of_no_request (by omega) h, hnvs']
  · intro hlt hstep
    rw [countUnit_of_request (by omega) (by rw [hodo, hrecord]; exact hstep)]
    constructor
    · intro hwait
      have hplaced := placeOdo_of_waiting (s := withUnit (unitEdge s)) (by rw [hnvs', hpsc']; exact hwait)
      rwa [hnvs'] at hplaced
    · intro hnone hflight hactive hlow hdue hblank
      have hprogram : odoProgram (withUnit (unitEdge s)) =
          { odoProgram s with bytes := odoRecord (s.spd.odometer + 1) s.nvs.odoSeq } := by
        have hnext : (withUnit (unitEdge s)).spd.odometer = s.spd.odometer + 1 := by
          rw [withUnit_odometer, hodo]
          omega
        have hnow' : (withUnit (unitEdge s)).now = s.now := hnow
        simp only [odoProgram, hnvs', hnext, hnow']
      rw [← hprogram]
      exact placeOdo_of_free (by rw [hnvs']; exact hnone) (by rw [hnvs']; exact hflight) (by rw [hnvs']; exact hactive)
        (by rw [hpsc']; exact hlow) (by unfold isDue at *; rw [hnvs']; exact hdue) (by rw [hnvs']; exact hblank)

end Sys2Proof.Machine
end

section
/-! SUPPORT. Which operations leave the live odometer alone (R16). -/

namespace Sys2Proof.Machine

/-! ### What leaves the odometer alone -/

/-- An operation that leaves the live odometer as it was. -/
def KeepsOdometer (f : State → State) : Prop := ∀ s, (f s).spd.odometer = s.spd.odometer

theorem keepsOdometer_of_spd {f : State → State} (h : ∀ s, (f s).spd = s.spd) : KeepsOdometer f :=
  fun s => congrArg Spd.odometer (h s)

theorem KeepsOdometer.comp {f g : State → State} (hg : KeepsOdometer g) (hf : KeepsOdometer f) :
    KeepsOdometer fun s => g (f s) :=
  fun s => (hg (f s)).trans (hf s)

theorem KeepsOdometer.onlyIf {p : State → Bool} {f : State → State} (hf : KeepsOdometer f) :
    KeepsOdometer fun s => onlyIf (p s) f s := by
  intro s
  simp only [Machine.onlyIf]
  split
  · exact hf s
  · rfl

theorem KeepsOdometer.foldl {α : Type} {f : α → State → State} (hf : ∀ a, KeepsOdometer (f a)) (l : List α) :
    KeepsOdometer fun s => l.foldl (fun s a => f a s) s :=
  fun s => foldl_keeps (fun s => s.spd.odometer) _ (fun s a => hf a s) l s

/-- A command that acts by such an operation keeps the odometer, in a part that is held too. -/
theorem KeepsOdometer.live {t : Nat} {f : State → State} {s u : State} (hf : KeepsOdometer f)
    (e : live t f s = .next u) : u.spd.odometer = s.spd.odometer := by
  unfold Machine.live at e
  cases e
  split
  · rfl
  · exact hf (tick t s)

/-! ### SPD's own operations -/

theorem evalOverspeed_keepsOdometer : KeepsOdometer evalOverspeed := fun s => by rw [evalOverspeed_spd]

theorem decay_keepsOdometer : KeepsOdometer decay := by
  intro s
  simp only [decay]
  repeat' split
  all_goals simp

theorem evalMoving_keepsOdometer : KeepsOdometer evalMoving := by
  intro s
  simp only [evalMoving]
  repeat' split
  all_goals simp

theorem speedUpdate_keepsOdometer : KeepsOdometer speedUpdate := by
  intro s
  unfold speedUpdate
  split
  · exact (evalOverspeed_keepsOdometer.comp (evalMoving_keepsOdometer.comp decay_keepsOdometer)) s
  · rfl

theorem expireStall_keepsOdometer : KeepsOdometer expireStall := by
  intro s
  unfold expireStall
  split <;> simp

theorem resetTrips_keepsOdometer (n : Nat) : KeepsOdometer (resetTrips n) := by
  intro s
  unfold resetTrips
  split <;> rfl

theorem spdNewPulse_keepsOdometer : KeepsOdometer spdNewPulse := by
  intro s
  simp [spdNewPulse]

theorem spdStandbyEntry_keepsOdometer : KeepsOdometer spdStandbyEntry := by
  intro s
  unfold spdStandbyEntry
  dsimp only
  split <;> simp

/-! ### Orders and the port -/

theorem takeResetTrip_keepsOdometer (k : Fin 8) (n : Nat) : KeepsOdometer (takeResetTrip k n) := by
  intro s
  unfold takeResetTrip
  split
  · rw [(answerOrder_frame _ _ _ _).2.2.1]
    exact resetTrips_keepsOdometer n s
  · simp

theorem takeOrder_keepsOdometer (k : Fin 8) : KeepsOdometer (takeOrder k) := by
  intro s
  unfold takeOrder
  dsimp only
  split
  case h_2 => exact takeResetTrip_keepsOdometer k _ s
  all_goals simp

theorem takeAt_keepsOdometer (a : Nat) : KeepsOdometer (takeAt a) := by
  intro s
  unfold takeAt
  split
  · exact takeOrder_keepsOdometer _ s
  · repeat' split
    all_goals simp

theorem commitWrite_keepsOdometer (l : List Nat) (xs : List (Nat × Byte)) : KeepsOdometer (commitWrite l xs) := by
  intro s
  unfold commitWrite
  dsimp only
  rw [KeepsOdometer.foldl takeAt_keepsOdometer]
  simp

theorem endWrite_keepsOdometer (l : List Nat) (b : Bool) : KeepsOdometer (endWrite l b) := by
  intro s
  unfold endWrite
  dsimp only
  split
  · exact commitWrite_keepsOdometer l _ s
  · rfl

theorem csRise_keepsOdometer (l : List Nat) (b : Nat) : KeepsOdometer (csRise l b) := by
  intro s
  unfold csRise
  dsimp only
  split
  · simpa using endWrite_keepsOdometer l (b == 0) s
  · simp

theorem endPiece_keepsOdometer (x : Xfer) : KeepsOdometer (endPiece x) := by
  intro s
  unfold endPiece
  split
  · exact csRise_keepsOdometer _ _ s
  · rfl

theorem transfer_keepsOdometer (k : LinkCommand) (code : Byte) (x : Xfer) : KeepsOdometer (transfer k code x) := by
  intro s
  unfold transfer
  repeat' split
  · rfl
  · rw [endPiece_keepsOdometer x]
    simp
  · rw [endPiece_keepsOdometer x]
    simp
  · rfl

theorem hostWrite_keepsOdometer (a : Nat) (data : List Byte) : KeepsOdometer (hostWrite a data) :=
  transfer_keepsOdometer .write 0x5C _

theorem orderWrite_keepsOdometer (k : Fin 8) (stamp code : Byte) (args : List Byte) :
    KeepsOdometer (orderWrite k stamp code args) := hostWrite_keepsOdometer _ _

theorem endWait_keepsOdometer : KeepsOdometer endWait := by
  intro s
  unfold endWait
  split <;> simp

/-! ### The store -/

theorem endCal_keepsOdometer (p : Prog) (c : Cells) : KeepsOdometer (endCal p c) := by
  intro s
  unfold endCal
  dsimp only
  split <;> simp [spdNewPulse_keepsOdometer _]

theorem programEnd_keepsOdometer (k : Kind) {finish : Prog → Cells → State → State} (c : Cells)
    (h : ∀ p, KeepsOdometer (finish p c)) : KeepsOdometer (programEnd k finish c) := by
  intro s
  unfold programEnd
  split
  · rw [(afterProgram_frame _ _).2.2.1]
    exact h _ s
  · rfl

/-! ### Power states -/

theorem announce_keepsOdometer (order : List Block) {reaction : Block → State → State}
    (h : ∀ b, KeepsOdometer (reaction b)) : KeepsOdometer (announce order reaction) :=
  KeepsOdometer.foldl h _

theorem runReaction_keepsOdometer (b : Block) : KeepsOdometer (runReaction b) := by
  intro s
  cases b <;> simp [runReaction, pscRunEntry]

theorem standbyReaction_keepsOdometer (b : Block) : KeepsOdometer (standbyReaction b) := by
  intro s
  cases b
  case spd => exact spdStandbyEntry_keepsOdometer s
  all_goals simp [standbyReaction]

theorem loadingReaction_keepsOdometer (b : Block) : KeepsOdometer (loadingReaction b) := by
  intro s
  cases b <;> simp [loadingReaction, dtuLoadingEnd]

theorem loadedReaction_keepsOdometer (b : Block) : KeepsOdometer (loadedReaction b) := by
  intro s
  unfold loadedReaction
  dsimp only
  repeat' split
  · exact loadingReaction_keepsOdometer b s
  · exact ((runReaction_keepsOdometer b).comp (loadingReaction_keepsOdometer b)) s
  · exact ((standbyReaction_keepsOdometer b).comp (loadingReaction_keepsOdometer b)) s

theorem lowClearReaction_keepsOdometer (b : Block) : KeepsOdometer (lowClearReaction b) := by
  intro s
  cases b <;> simp [lowClearReaction]

theorem enterRun_keepsOdometer (order : List Block) : KeepsOdometer (enterRun order) := by
  intro s
  unfold enterRun
  rw [announce_keepsOdometer order runReaction_keepsOdometer]
  simp [postPower, enterProof, ignTake]

theorem enterStandby_keepsOdometer (order : List Block) : KeepsOdometer (enterStandby order) := by
  intro s
  unfold enterStandby
  dsimp only
  rw [announce_keepsOdometer order standbyReaction_keepsOdometer]
  simp [postPower, ignTake]

theorem endProof_keepsOdometer : KeepsOdometer endProof := by
  intro s
  simp [endProof, postPower]

theorem setLow_keepsOdometer : KeepsOdometer setLow := by
  intro s
  simp [setLow, postPower]

theorem clearLow_keepsOdometer (order : List Block) : KeepsOdometer (clearLow order) := by
  intro s
  unfold clearLow
  dsimp only
  rw [announce_keepsOdometer order lowClearReaction_keepsOdometer]
  simp [postPower]

theorem expireLowSupply_keepsOdometer : KeepsOdometer expireLowSupply := by
  intro s
  simp [expireLowSupply]

end Sys2Proof.Machine
end

section
/-! SUPPORT. What sets the live odometer: an edge, a preset, a reset and the end of LOADING (R16, R19, R144, R193). -/

namespace Sys2Proof.Machine

/-! ### The odometer that LOADING reads back (R144, R160) -/

/-- The total of a valid record lies in the odometer's range. -/
theorem word32_le_of_validOdo {bs : List Byte} (h : validOdo bs = true) : word32 bs 0 ≤ 999999999 := by
  unfold validOdo at h
  rw [Bool.and_eq_true, decide_eq_true_iff] at h
  exact h.2

theorem odoWinner_le (s : State) : ∀ x, odoWinner s = some x → x.total ≤ 999999999 := by
  unfold odoWinner
  refine List.foldlRecOn (motive := fun w => ∀ x : OdoFound, w = some x → x.total ≤ 999999999) _ _ (by simp) ?_
  intro w hw i _
  dsimp only
  split
  next bs _ =>
    split
    next hvalid =>
      have hle := word32_le_of_validOdo hvalid
      split
      next old =>
        split
        · rintro x ⟨⟩
          exact hle
        · exact hw
      next =>
        rintro x ⟨⟩
        exact hle
    next => exact hw
  next => exact hw

theorem loadOdo_odometer_le (s : State) : (loadOdo s).spd.odometer ≤ 999999999 := by
  have hwinner : ((odoWinner s).map OdoFound.total).getD 0 ≤ 999999999 := by
    cases h : odoWinner s with
    | none => simp
    | some x => exact odoWinner_le s x h
  have hload : (loadOdo s).spd.odometer = ((odoWinner s).map OdoFound.total).getD 0 := by
    unfold loadOdo
    dsimp only
    rw [(enterSector_frame _ _).2.2.1]
    generalize odoWinner s = w
    generalize firstBlank _ _ _ _ = b
    cases b <;> simp
  rw [hload]
  exact hwinner

theorem restoreSnap_keepsOdometer (bs : List Byte) : KeepsOdometer (restoreSnap bs) := fun _ => rfl

theorem loadSnap_keepsOdometer : KeepsOdometer loadSnap := by
  intro s
  unfold loadSnap
  dsimp only
  generalize latestSnap s = w
  generalize firstBlank _ _ _ _ = b
  cases w <;> cases b <;> simp [restoreSnap_keepsOdometer _ _]

theorem loadSettings_keepsOdometer (found : Bool) : KeepsOdometer (loadSettings found) := by
  intro s
  simp [loadSettings, writeSections]

theorem loadingSequence_odometer_le (s : State) : (loadingSequence s).spd.odometer ≤ 999999999 := by
  unfold loadingSequence
  dsimp only
  rw [State.setNvs_spd, loadSettings_keepsOdometer, loadSnap_keepsOdometer]
  exact loadOdo_odometer_le _

theorem endLoading_odometer_le (order : List Block) (s : State) : (endLoading order s).spd.odometer ≤ 999999999 := by
  unfold endLoading
  dsimp only
  rw [announce_keepsOdometer order loadedReaction_keepsOdometer]
  have h := loadingSequence_odometer_le s
  split <;> simpa [postPower, enterProof] using h

/-! ### What sets the odometer (R16, R19) -/

theorem speedTransition_odometer (rising : Bool) {s : State} (h : s.spd.odometer ≤ 999999999) :
    s.spd.odometer ≤ (speedTransition rising s).spd.odometer ∧
      (speedTransition rising s).spd.odometer ≤ 999999999 := by
  unfold speedTransition
  split
  · split
    · exact ⟨le_rfl, h⟩
    · by_cases hunit : s.nvs.pulse ≤ s.spd.remainder + 100
      · obtain ⟨-, hodo, -, -⟩ := acceptEdge_of_unit hunit
        omega
      · obtain ⟨-, hodo, -, -⟩ := acceptEdge_of_no_unit hunit
        omega
  · exact ⟨le_rfl, h⟩

/-- A preset sets the odometer to a total that is not below it and lies in its range, or leaves it alone. -/
theorem applyPreset_odometer (k : Fin 8) {s : State} (h : s.spd.odometer ≤ 999999999) :
    s.spd.odometer ≤ (applyPreset k s).spd.odometer ∧ (applyPreset k s).spd.odometer ≤ 999999999 := by
  unfold applyPreset
  split
  next total _ =>
    split
    next hrange => simpa [odometerMax] using hrange
    next => simpa using h
  all_goals exact ⟨le_rfl, h⟩

theorem beginReset_odometer_le (source : ResetSource) {s : State} (h : s.spd.odometer ≤ 999999999) :
    (beginReset source s).spd.odometer ≤ 999999999 := by
  unfold beginReset
  split
  · exact h
  · simp [Spd.reset]

/-- A command other than an edge, a preset's application, a reset or the end of LOADING leaves the odometer alone (R16). -/
theorem exec_keepsOdometer {s u : State} {c : Instr} (e : exec c s = .next u)
    (edge : ∀ t rising, c ≠ .speedEdge t rising) (preset : ∀ t k, c ≠ .presetApply t k)
    (resetBegin : ∀ t source, c ≠ .resetBegin t source) (reset : ∀ t pins, c ≠ .reset t pins)
    (loading : ∀ t order, c ≠ .loadingEnd t order) : u.spd.odometer = s.spd.odometer := by
  unfold exec at e
  cases c with
  | speedEdge t rising => exact absurd rfl (edge t rising)
  | presetApply t k => exact absurd rfl (preset t k)
  | resetBegin t source => exact absurd rfl (resetBegin t source)
  | reset t pins => exact absurd rfl (reset t pins)
  | loadingEnd t order => exact absurd rfl (loading t order)
  | read t x => exact (transfer_keepsOdometer _ _ x).live e
  | write t x => exact (transfer_keepsOdometer _ _ x).live e
  | status t x => exact (transfer_keepsOdometer _ _ x).live e
  | unknownCommand t code x => exact (transfer_keepsOdometer _ _ x).live e
  | chipSelectRiseInWaitCs t => exact endWait_keepsOdometer.live e
  | journalFree t j => exact KeepsOdometer.live (fun s => hostWrite_keepsOdometer _ _ s) e
  | hostCauseTake t n stamp request tag argument => exact (hostWrite_keepsOdometer _ _).live e
  | gaugeDemandTake t c stamp mode value => exact (hostWrite_keepsOdometer _ _).live e
  | textTake t n stamp codes => exact (hostWrite_keepsOdometer _ _).live e
  | acknowledge t k stamp cause => exact (orderWrite_keepsOdometer k stamp _ _).live e
  | resetTrip t k stamp trip => exact (orderWrite_keepsOdometer k stamp _ _).live e
  | rehome t k stamp mask => exact (orderWrite_keepsOdometer k stamp _ _).live e
  | lampTest t k stamp seconds => exact (orderWrite_keepsOdometer k stamp _ _).live e
  | setTime t k stamp day minute second => exact (orderWrite_keepsOdometer k stamp _ _).live e
  | takeSnapshot t k stamp => exact (orderWrite_keepsOdometer k stamp _ _).live e
  | saveSettings t k stamp => exact (orderWrite_keepsOdometer k stamp _ _).live e
  | calibrate t k stamp pulse => exact (orderWrite_keepsOdometer k stamp _ _).live e
  | presetOdometer t k stamp total => exact (orderWrite_keepsOdometer k stamp _ _).live e
  | lockCalibration t k stamp => exact (orderWrite_keepsOdometer k stamp _ _).live e
  | speedUpdate t => exact speedUpdate_keepsOdometer.live e
  | stallTimerExpiry t => exact expireStall_keepsOdometer.onlyIf.live e
  | filterEvent t => exact (keepsOdometer_of_spd (f := forChannels filterChannel) (by simp)).onlyIf.live e
  | stepEvent t silent =>
    exact (keepsOdometer_of_spd (f := forChannels fun c => stepChannel (decide (c ∈ silent)) c) (by simp)).onlyIf.live e
  | homingEnd t c => exact (keepsOdometer_of_spd (f := stepChannel false c) (by simp)).onlyIf.live e
  | freshnessExpiry t c => exact (keepsOdometer_of_spd (f := expireFreshness c) (by simp)).onlyIf.live e
  | ackInputChange t pressed => exact KeepsOdometer.live (f := ackRawChange pressed) (fun _ => rfl) e
  | ackPress t =>
    exact (keepsOdometer_of_spd (f := fun s => ackPressed (ackTake s)) (by simp [ackTake])).onlyIf.live e
  | ackRelease t => exact (keepsOdometer_of_spd (f := ackTake) (by simp [ackTake])).onlyIf.live e
  | blinkPhaseStep t =>
    exact (keepsOdometer_of_spd
      (f := fun s => lampEvaluation (s.setTtu { s.ttu with blink := (s.ttu.blink + 1) % 8 })) (by simp)).onlyIf.live e
  | lampDiagnosticSample t openLamps =>
    exact (keepsOdometer_of_spd (f := lampSample openLamps) (by simp)).onlyIf.live e
  | lampTestEnd t => exact (keepsOdometer_of_spd (f := endLampTest) (by simp)).onlyIf.live e
  | silenceTimerExpiry t =>
    exact (keepsOdometer_of_spd (f := fun s => chimeStart (s.setTtu { s.ttu with silence := none })) (by simp)).onlyIf.live e
  | chimePeriodEnd t =>
    refine KeepsOdometer.live (f := chimePeriodEnd) (fun s => ?_) e
    simp only [chimePeriodEnd]
    repeat' split
    all_goals simp
  | byteCompletion t b stopHigh => exact (keepsOdometer_of_spd (f := stopBit b stopHigh) (by simp)).live e
  | timeFrame t day minute second => exact (keepsOdometer_of_spd (f := frameEnd 0x10 _) (by simp)).live e
  | activityFrame t slot activity minute => exact (keepsOdometer_of_spd (f := frameEnd 0x11 _) (by simp)).live e
  | cardFrame t f => exact (keepsOdometer_of_spd (f := frameEnd 0x12 _) (by simp)).live e
  | presenceFrame t activity1 activity2 flags =>
    exact (keepsOdometer_of_spd (f := frameEnd 0x13 _) (by simp)).live e
  | byteGapExpiry t => exact (keepsOdometer_of_spd (f := toHunt) (by simp)).onlyIf.live e
  | lineTimerExpiry t => exact (keepsOdometer_of_spd (f := expireLineTimer) (by simp)).onlyIf.live e
  | lineMirrorUpdate t =>
    exact (keepsOdometer_of_spd (f := fun s => s.setTlr { s.tlr with mirrorTime := sinceFrame s }) (by simp)).onlyIf.live e
  | lineIdleAfterStopBitError t =>
    exact KeepsOdometer.live (f := fun s => s.setTlr { s.tlr with waitIdle := false }) (fun _ => rfl) e
  | secondChange t => exact (keepsOdometer_of_spd (f := secondTick) (by simp)).onlyIf.live e
  | minuteEvent t => exact (keepsOdometer_of_spd (f := secondTick) (by simp)).onlyIf.live e
  | snapshotTimerExpiry t =>
    exact (keepsOdometer_of_spd (f := fun s => startSnapTimer (placeSnap s)) (by simp)).onlyIf.live e
  | composeEvent t => exact (keepsOdometer_of_spd (f := compose) (by simp)).live e
  | blinkStep t => exact (keepsOdometer_of_spd (f := stepBlink) (by simp)).live e
  | frameStart t => exact (keepsOdometer_of_spd (f := fun s => startFrame s.sdu.drive.nextInverted s) (by simp)).live e
  | nvsStart t => exact (keepsOdometer_of_spd (f := Machine.nvsStart) (by simp)).live e
  | odoProgramEnd t cells =>
    exact (programEnd_keepsOdometer _ cells fun p => keepsOdometer_of_spd (by simp)).live e
  | calProgramEnd t cells => exact (programEnd_keepsOdometer _ cells fun p => endCal_keepsOdometer p cells).live e
  | snapProgramEnd t cells =>
    exact (programEnd_keepsOdometer _ cells fun p => keepsOdometer_of_spd (by simp)).live e
  | setsProgramEnd t cells =>
    exact (programEnd_keepsOdometer _ cells fun p => keepsOdometer_of_spd (by simp)).live e
  | setsEraseStepEnd t =>
    refine KeepsOdometer.live (fun s => ?_) e
    split <;> simp
  | eraseEnd t =>
    refine KeepsOdometer.live (fun s => ?_) e
    split <;> simp
  | ignInputChange t on => exact KeepsOdometer.live (f := ignRawChange on) (fun _ => rfl) e
  | ignTakesNewLevelInLoading t => exact (keepsOdometer_of_spd (f := ignTake) (by simp [ignTake])).onlyIf.live e
  | runEntry t order => exact (enterRun_keepsOdometer order).onlyIf.live e
  | standbyEntry t order => exact (enterStandby_keepsOdometer order).onlyIf.live e
  | proofEnd t => exact endProof_keepsOdometer.onlyIf.live e
  | supplyIndicationChange t low => exact KeepsOdometer.live (f := supplyChange low) (fun _ => rfl) e
  | lowSet t => exact setLow_keepsOdometer.onlyIf.live e
  | lowClear t order => exact (clearLow_keepsOdometer order).onlyIf.live e
  | lowSupplyTimerExpiry t => exact expireLowSupply_keepsOdometer.onlyIf.live e

end Sys2Proof.Machine
end

section
/-! PROOF. The live odometer over every command (R16): the statement OdometerLaw. -/

namespace Sys2Proof.Machine

/-- A live command holds what its operation holds, if a part that is held in reset holds it. -/
theorem live_holds {t : Nat} {f : State → State} {s u : State} {P : State → Prop} (e : live t f s = .next u)
    (hself : P s) (hf : P (f (tick t s))) : P u := by
  unfold live at e
  cases e
  split
  · exact hself
  · exact hf

/-- The odometer lies in its range (R16). -/
def OdometerInRange (s : State) : Prop := s.spd.odometer ≤ 999999999

/-- Every command keeps the odometer in its range, a reset and the end of LOADING too (R16, R144, R193). -/
theorem exec_odometer_le {s u : State} {c : Instr} (e : exec c s = .next u) (h : OdometerInRange s) : OdometerInRange u := by
  cases c with
  | speedEdge t rising => exact live_holds (P := OdometerInRange) e h (speedTransition_odometer rising (s := tick t s) h).2
  | presetApply t k => exact live_holds (P := OdometerInRange) e h (applyPreset_odometer k (s := tick t s) h).2
  | resetBegin t source =>
    cases e
    refine beginReset_odometer_le source ?_
    split <;> exact h
  | reset t pins =>
    cases e
    split
    · exact Nat.zero_le _
    · exact h
  | loadingEnd t order =>
    refine live_holds (P := OdometerInRange) e h ?_
    simp only [onlyIf]
    split
    · exact endLoading_odometer_le order _
    · exact h
  | _ =>
    exact (exec_keepsOdometer e (by simp) (by simp) (by simp) (by simp) (by simp)).trans_le h

/-- While the part is powered the odometer never decreases (R16). -/
theorem exec_odometer_mono {s u : State} {c : Instr} (e : exec c s = .next u) (h : s.spd.odometer ≤ 999999999)
    (resetBegin : ∀ t source, c ≠ .resetBegin t source) (reset : ∀ t pins, c ≠ .reset t pins)
    (loading : ∀ t order, c ≠ .loadingEnd t order) : s.spd.odometer ≤ u.spd.odometer := by
  cases c with
  | speedEdge t rising =>
    exact live_holds (P := fun u => s.spd.odometer ≤ u.spd.odometer) e le_rfl
      (speedTransition_odometer rising (s := tick t s) h).1
  | presetApply t k =>
    exact live_holds (P := fun u => s.spd.odometer ≤ u.spd.odometer) e le_rfl
      (applyPreset_odometer k (s := tick t s) h).1
  | _ => exact (exec_keepsOdometer e (by simp) (by simp) resetBegin reset loading).ge

/-- Settles O25: a unit by the equations of an accepted edge, and every command by a split into the five that may set the
odometer and the others, which keep it. -/
theorem odometerLaw : Obligations.OdometerLaw := by
  unfold Obligations.OdometerLaw
  refine ⟨fun s t rising ok hunit hle => ?_, fun s u c e h => ⟨exec_odometer_le e h, fun resetBegin reset loading =>
    ⟨exec_odometer_mono e h resetBegin reset loading, fun edge preset =>
      exec_keepsOdometer e edge preset resetBegin reset loading⟩⟩⟩
  obtain ⟨-, hodo, htripA, htripB⟩ := acceptEdge_of_unit (s := tick t s) hunit
  obtain ⟨hnone, hplaced⟩ := acceptEdge_unit_nvs (s := tick t s) hunit hle
  refine ⟨acceptEdge (tick t s), exec_speedEdge_of_accepted ok, ?_, ?_, ?_, ?_, ?_, ?_, hnone, hplaced⟩
  · intro hlt
    rw [hodo, tick_spd]
    omega
  · intro hmax
    rw [hodo, tick_spd]
    omega
  · exact fun hlt => htripA.trans (tripNext_of_lt hlt)
  · exact fun hmax => htripA.trans ((congrArg tripNext hmax).trans tripNext_max)
  · exact fun hlt => htripB.trans (tripNext_of_lt hlt)
  · exact fun hmax => htripB.trans ((congrArg tripNext hmax).trans tripNext_max)

end Sys2Proof.Machine
end

section
/-! SUPPORT. The WRITE of an order into a free slot, from chip select's fall to the take (R166, R169–R171, R180). -/

namespace Sys2Proof.Machine

/-! ### A WRITE on the port (R166, R169) -/

/-- A WRITE from address a with these data bytes clocked, of which the buffer holds all (R169). -/
def writing (s : State) (a : Nat) (data : List Byte) : State :=
  s.setPort { s.lnk.port with
    csLow := true, state := .data, command := some .write, addressBytes := 2, address := (a + data.length) % exchangeSize
    writeStart := a, writeBuffer := data, writeCount := data.length, out := List.replicate (data.length + 3) 0 }

/-- Chip select rises after a WRITE: the transaction is over. -/
def closePort (s : State) : State :=
  s.setPort { s.lnk.port with csLow := false, state := .idle, command := none, writeBuffer := [], writeCount := 0 }

@[simp] theorem State.setPort_port (s : State) (p : Port) : (s.setPort p).lnk.port = p := rfl

@[simp] theorem State.setPort_setPort (s : State) (p q : Port) : (s.setPort p).setPort q = s.setPort q := rfl

/-- The command byte and the two address bytes open the WRITE. -/
theorem clockBytes_open (s : State) {a : Nat} (ha : a < 8192) :
    (le 2 a).foldl clockByte (clockByte (csFall s) 0x5C) = writing s a [] := by
  have haddr : ((u8 a).toNat + 256 * (u8 (a / 256)).toNat) % exchangeSize = a := by
    simp only [u8, BitVec.toNat_ofNat, exchangeSize]
    omega
  have hmod : a % exchangeSize = a := Nat.mod_eq_of_lt ha
  have hcommand : clockByte (csFall s) 0x5C = s.setPort { s.lnk.port with
      csLow := true, state := .address, command := some .write, addressBytes := 0, address := 0
      writeStart := 0, writeBuffer := [], writeCount := 0, out := [0] } := rfl
  rw [hcommand]
  simp [le, clockByte, writing, haddr, hmod]

/-- A data byte joins the buffer while it has room (R169). -/
theorem clockByte_writing (s : State) (a : Nat) (data : List Byte) (b : Byte) (h : data.length < 64) :
    clockByte (writing s a data) b = writing s a (data ++ [b]) := by
  have hcount : satAdd 65535 data.length 1 = data.length + 1 := Nat.min_eq_right (by omega)
  have haddr : ((a + data.length) % exchangeSize + 1) % exchangeSize = (a + (data.length + 1)) % exchangeSize := by
    rw [Nat.mod_add_mod, Nat.add_assoc]
  have hout : List.replicate (data.length + 3) (0 : Byte) ++ [0] = List.replicate (data.length + 1 + 3) 0 :=
    List.replicate_succ'.symm
  simp only [clockByte, writing, State.setPort_port, State.setPort_setPort, h, if_true, hcount, haddr, hout,
    List.length_append, List.length_singleton]

theorem clockBytes_writing (s : State) (a : Nat) (data more : List Byte) (h : data.length + more.length ≤ 64) :
    more.foldl clockByte (writing s a data) = writing s a (data ++ more) := by
  induction more generalizing data with
  | nil => simp
  | cons b more ih =>
    rw [List.length_cons] at h
    rw [List.foldl_cons, clockByte_writing s a data b (by omega), ih (data ++ [b]) (by simp; omega)]
    simp

theorem hostWrite_eq {s : State} {a : Nat} {data : List Byte} (cs : s.lnk.port.csLow = false) (ha : a < 8192)
    (hlen : data.length ≤ 64) : hostWrite a data s = csRise [] 0 (writing s a data) := by
  unfold hostWrite transfer
  rw [if_pos rfl, cs]
  simp only [List.foldl_append, clockBytes_open s ha, clockBytes_writing s a [] data (by simpa using hlen)]
  rfl

/-! ### Landing (R169) -/

/-- The state in which the bytes of an accepted WRITE have landed, before its takes. -/
def landed (s : State) (a : Nat) (data : List Byte) : State :=
  land (touched a data) ((writing s a data).setLnk { (writing s a data).lnk with discard := .none })

/-- The bytes of a run written one after another, each at its address, read back. -/
theorem read_foldl_touched (data : List Byte) (start n b : Nat) {m : Memory} (h : Memory.wf 0 m = true)
    (hend : start + n + data.length ≤ 8192) :
    Memory.read 0 (((data.zipIdx n).map fun p => ((start + p.2) % exchangeSize, p.1)).foldl
        (fun m x => Memory.write 0 m x.1 x.2) m) b =
      if start + n ≤ b ∧ b < start + n + data.length then data.getD (b - (start + n)) 0 else Memory.read 0 m b := by
  induction data generalizing n m with
  | nil =>
    rw [if_neg (by simp)]
    rfl
  | cons x data ih =>
    rw [List.length_cons] at hend
    have hmod : (start + n) % exchangeSize = start + n := Nat.mod_eq_of_lt (by unfold exchangeSize; omega)
    simp only [List.zipIdx_cons, List.map_cons, List.foldl_cons, hmod]
    rw [ih (n + 1) (Memory.wf_write _ _ h) (by omega), Memory.read_write _ _ _ h, List.length_cons]
    by_cases hb : b = start + n
    · rw [if_neg (by omega), if_pos hb, if_pos (by omega), hb]
      simp
    · rw [if_neg hb]
      by_cases hin : start + (n + 1) ≤ b ∧ b < start + (n + 1) + data.length
      · rw [if_pos hin, if_pos (by omega), show b - (start + n) = b - (start + (n + 1)) + 1 by omega]
        rfl
      · rw [if_neg hin, if_neg (by omega)]

/-- Every byte of the WRITE stands at its address, and every other host-owned byte is as it was. -/
theorem landed_hostByte {s : State} {a : Nat} {data : List Byte} (b : Nat) (h : Memory.wf 0 s.host = true)
    (hend : a + data.length ≤ 8192) :
    hostByte (landed s a data) b = if a ≤ b ∧ b < a + data.length then data.getD (b - a) 0 else hostByte s b := by
  exact read_foldl_touched data a 0 b h hend

@[simp] theorem landed_frame (s : State) (a : Nat) (data : List Byte) :
    (landed s a data).now = s.now ∧ (landed s a data).psc = s.psc ∧ (landed s a data).spd = s.spd ∧
      (landed s a data).gau = s.gau ∧ (landed s a data).ttu = s.ttu ∧ (landed s a data).tlr = s.tlr ∧
      (landed s a data).dtu = s.dtu ∧ (landed s a data).sdu = s.sdu ∧ (landed s a data).nvs = s.nvs ∧
      (landed s a data).freeCount = s.freeCount ∧ (landed s a data).pending = s.pending ∧
      (landed s a data).lnk.discard = .none ∧ (landed s a data).lnk.journal = s.lnk.journal ∧
      (landed s a data).lnk.cursor = s.lnk.cursor ∧ (landed s a data).lnk.postCounter = s.lnk.postCounter ∧
      (landed s a data).lnk.backlog = s.lnk.backlog ∧ (landed s a data).lnk.causeEcho = s.lnk.causeEcho ∧
      (landed s a data).lnk.gaugeEcho = s.lnk.gaugeEcho ∧ (landed s a data).lnk.textEcho = s.lnk.textEcho ∧
      (landed s a data).lnk.orders = s.lnk.orders := by
  exact ⟨rfl, rfl, rfl, rfl, rfl, rfl, rfl, rfl, rfl, rfl, rfl, rfl, rfl, rfl, rfl, rfl, rfl, rfl, rfl, rfl⟩

theorem hostByte_congr {s u : State} (h : u.host = s.host) (a : Nat) : hostByte u a = hostByte s a := by
  unfold hostByte
  rw [h]

/-- A state whose host-owned bytes and discard reason are those of a landed WRITE has landed it. -/
theorem landed_of_host {s u : State} {a : Nat} {data : List Byte} (hwf : Memory.wf 0 s.host = true)
    (hend : a + data.length ≤ 8192) (hhost : u.host = (landed s a data).host) (hdiscard : u.lnk.discard = .none) :
    Landed u s a data := by
  refine ⟨fun i hi => ?_, fun b hb => ?_, hdiscard⟩
  · rw [hostByte_congr hhost, landed_hostByte _ hwf hend, if_pos (by omega), Nat.add_sub_cancel_left]
  · rw [hostByte_congr hhost, landed_hostByte _ hwf hend, if_neg (by omega)]

/-- A WRITE that passes the five tests (R169). -/
theorem judgeWrite_none {s : State} {a : Nat} {data : List Byte} (hne : data ≠ []) (hlen : data.length ≤ 64)
    (hload : inLoading s = false)
    (hfree : ∀ x ∈ touched a data, ownerOf x.1 ≠ .unassigned ∧ isProtected s data.length x.1 x.2 = false) :
    judgeWrite s true data.length a data = .none := by
  have hcount : (data.length == 0) = false := by simpa using hne
  have houtside : ((touched a data).any fun x => ownerOf x.1 == .unassigned) = false := by
    rw [List.any_eq_false]
    exact fun x hx => by simpa using (hfree x hx).1
  have hprotected : ((touched a data).any fun x => isProtected s data.length x.1 x.2) = false := by
    rw [List.any_eq_false]
    exact fun x hx => by simpa using (hfree x hx).2
  simp [judgeWrite, hcount, hload, houtside, hprotected, Nat.not_lt.2 hlen]

/-- A WRITE below the journal frees no slot, so that nothing drains (R175). -/
theorem drainIfFreed_landed {s : State} {a : Nat} {data : List Byte} (hwf : Memory.wf 0 s.host = true)
    (hend : a + data.length ≤ 0x1400) : drainIfFreed (writing s a data) (landed s a data) = landed s a data := by
  have hfilled : ∀ j, slotFilled (landed s a data) j = slotFilled (writing s a data) j := by
    intro j
    have hmark : clearMark (landed s a data) j = clearMark (writing s a data) j := by
      unfold clearMark
      rw [landed_hostByte _ hwf (by omega), if_neg (by unfold journalAddr; omega)]
      rfl
    unfold slotFilled
    rw [hmark]
    rfl
  simp [drainIfFreed, hfilled]

/-- An accepted WRITE below the journal lands, and then its takes are delivered (R169, R171). -/
theorem endWrite_writing {s : State} {a : Nat} {data : List Byte} (hwf : Memory.wf 0 s.host = true)
    (hend : a + data.length ≤ 0x1400) (hjudge : judgeWrite s true data.length a data = .none) :
    endWrite [] true (writing s a data) =
      (changedStamps [] (touched a data) s (landed s a data)).foldl (fun s a => takeAt a s) (landed s a data) := by
  have hcommit : endWrite [] true (writing s a data) = commitWrite [] (touched a data) (writing s a data) := by
    have hjudge' : judgeWrite (writing s a data) true (writing s a data).lnk.port.writeCount
      (writing s a data).lnk.port.writeStart (writing s a data).lnk.port.writeBuffer = .none := hjudge
    unfold endWrite
    dsimp only
    rw [hjudge']
    rfl
  have hland : land (touched a data) ((writing s a data).setLnk { (writing s a data).lnk with discard := .none }) =
      landed s a data := rfl
  rw [hcommit, commitWrite, hland, drainIfFreed_landed hwf hend]
  rfl

/-- A whole WRITE below the journal that passes the five tests. -/
theorem hostWrite_of_accepted {s : State} {a : Nat} {data : List Byte} (hwf : Memory.wf 0 s.host = true)
    (cs : s.lnk.port.csLow = false) (hload : inLoading s = false) (hne : data ≠ []) (hlen : data.length ≤ 64)
    (hend : a + data.length ≤ 0x1400)
    (hfree : ∀ x ∈ touched a data, ownerOf x.1 ≠ .unassigned ∧ isProtected s data.length x.1 x.2 = false) :
    hostWrite a data s =
      closePort ((changedStamps [] (touched a data) s (landed s a data)).foldl (fun s a => takeAt a s)
        (landed s a data)) := by
  rw [hostWrite_eq cs (by omega) hlen, ← endWrite_writing hwf hend (judgeWrite_none hne hlen hload hfree)]
  rfl

/-! ### Orders (R171, R180) -/

theorem orderAddr_bounds (k : Fin 8) : 0x40 ≤ orderAddr k ∧ orderAddr k ≤ 0xB0 ∧ orderAddr k % 16 = 0 := by
  unfold orderAddr
  omega

/-- The bytes of a WRITE into an order slot, address by address. -/
theorem mem_touched_order {k : Fin 8} {data : List Byte} {x : Nat × Byte} (hlen : data.length ≤ 12)
    (hx : x ∈ touched (orderAddr k) data) : ∃ i, i < data.length ∧ x.1 = orderAddr k + i := by
  obtain ⟨p, hp, rfl⟩ := List.mem_map.1 hx
  obtain ⟨-, hi, -⟩ := List.mem_zipIdx hp
  have hk := orderAddr_bounds k
  exact ⟨p.2, by omega, Nat.mod_eq_of_lt (by unfold exchangeSize; omega)⟩

/-- The twelve host bytes of a free order slot may be written (R170). -/
theorem order_bytes_free {s : State} {k : Fin 8} {data : List Byte} (hlen : data.length ≤ 12)
    (hfree : orderStamp s k = (s.orderSlot k).echo) (x : Nat × Byte) (hx : x ∈ touched (orderAddr k) data) :
    ownerOf x.1 ≠ .unassigned ∧ isProtected s data.length x.1 x.2 = false := by
  obtain ⟨i, hi, hxi⟩ := mem_touched_order hlen hx
  obtain ⟨hlo, hhi, hmod⟩ := orderAddr_bounds k
  have howner : ownerOf x.1 = .host := by
    rw [hxi]
    unfold ownerOf
    rw [if_neg (by omega), if_pos (by omega), if_pos (by omega)]
  have hslot : slotOfAddr x.1 = k := by
    rw [hxi]
    unfold slotOfAddr orderAddr
    ext
    simp
    omega
  refine ⟨by simp [howner], ?_⟩
  unfold isProtected
  rw [howner]
  dsimp only
  rw [if_pos (by omega), hslot, hfree]
  simp

/-- The one stamp of an order slot is its first byte (R171). -/
theorem isStamp_order (k : Fin 8) {i : Nat} (hi : i < 12) : isStamp (orderAddr k + i) = decide (i = 0) := by
  obtain ⟨hlo, hhi, hmod⟩ := orderAddr_bounds k
  by_cases h0 : i = 0
  · simp [isStamp, h0]
    omega
  · simp [isStamp, h0]
    omega

theorem arrange_nil (l : List Nat) : arrange [] l = l := by
  simp [arrange]

/-- The addresses of an order's bytes: the stamp's, and others that lie in the slot above it. -/
theorem touched_order (k : Fin 8) (stamp : Byte) {rest : List Byte} (hlen : rest.length ≤ 11) :
    ∃ addrs, (touched (orderAddr k) (stamp :: rest)).map Prod.fst = orderAddr k :: addrs ∧
      ∀ b ∈ addrs, ∃ i, 1 ≤ i ∧ i < 12 ∧ b = orderAddr k + i := by
  obtain ⟨-, hhi, -⟩ := orderAddr_bounds k
  have hmod : ∀ i, i < 12 → (orderAddr k + i) % exchangeSize = orderAddr k + i :=
    fun i hi => Nat.mod_eq_of_lt (by unfold exchangeSize; omega)
  refine ⟨(rest.zipIdx 1).map fun p => (orderAddr k + p.2) % exchangeSize, ?_, ?_⟩
  · have hhead := hmod 0 (by omega)
    rw [Nat.add_zero] at hhead
    simp [touched, hhead, Function.comp_def]
  · intro b hb
    obtain ⟨p, hp, rfl⟩ := List.mem_map.1 hb
    obtain ⟨hge, hlt, -⟩ := List.mem_zipIdx hp
    exact ⟨p.2, hge, by omega, hmod p.2 (by omega)⟩

/-- An order with a new stamp changes its slot's stamp alone. -/
theorem changedStamps_order {s : State} {k : Fin 8} {stamp : Byte} {rest : List Byte} (hwf : Memory.wf 0 s.host = true)
    (hlen : rest.length ≤ 11) (hnew : stamp ≠ orderStamp s k) :
    changedStamps [] (touched (orderAddr k) (stamp :: rest)) s (landed s (orderAddr k) (stamp :: rest)) =
      [orderAddr k] := by
  obtain ⟨-, hhi, -⟩ := orderAddr_bounds k
  obtain ⟨addrs, hcons, haddrs⟩ := touched_order k stamp hlen
  have hstamp : hostByte (landed s (orderAddr k) (stamp :: rest)) (orderAddr k) = stamp := by
    rw [landed_hostByte _ hwf (by simp; omega), if_pos (by simp)]
    simp
  have hnotMem : orderAddr k ∉ addrs := by
    intro hmem
    obtain ⟨i, hi, -, heq⟩ := haddrs _ hmem
    omega
  have hhead : isStamp (orderAddr k) = true := isStamp_order k (i := 0) (by omega)
  have htail : ∀ b ∈ addrs, isStamp b = false := by
    intro b hb
    obtain ⟨i, hpos, hi, rfl⟩ := haddrs b hb
    rw [isStamp_order k hi]
    exact decide_eq_false (by omega)
  have hchanged : (hostByte s (orderAddr k) != stamp) = true := bne_iff_ne.2 (Ne.symm hnew)
  rw [changedStamps, arrange_nil, hcons, List.dedup_cons_of_notMem hnotMem, List.filter_cons, hhead, hstamp, hchanged,
    Bool.and_self, if_pos rfl, List.filter_eq_nil_iff.2 fun b hb => by simp [htail b (List.mem_dedup.1 hb)]]

/-- The code and the arguments of an order that was written stand in its slot. -/
theorem orderWrite_of_taken {s : State} {k : Fin 8} {stamp code : Byte} {args : List Byte} (link : LinkFree s)
    (slot : SlotFree s k stamp) (hwf : Memory.wf 0 s.host = true) (hlen : args.length ≤ 10) :
    orderWrite k stamp code args s = closePort (takeOrder k (landed s (orderAddr k) (stamp :: code :: args))) := by
  obtain ⟨cs, hload⟩ := link
  obtain ⟨hfree, hnew⟩ := slot
  obtain ⟨hlo, hhi, hmod⟩ := orderAddr_bounds k
  have htake : ∀ u, takeAt (orderAddr k) u = takeOrder k u := by
    intro u
    unfold takeAt
    rw [if_pos (by omega), show (Fin.ofNat 8 ((orderAddr k - 0x40) / 16)) = k from by
      ext
      simp [orderAddr]]
  unfold orderWrite
  rw [hostWrite_of_accepted hwf cs hload (by simp) (by simp; omega) (by simp; omega)
    (order_bytes_free (by simp; omega) hfree), changedStamps_order hwf (by simp; omega) hnew]
  simp only [List.foldl_cons, List.foldl_nil, htake]

end Sys2Proof.Machine
end

section
/-! PROOF. RESET TRIP (R18, R184): the statement ResetTripOrder. -/

namespace Sys2Proof.Machine

/-! ### RESET TRIP (R18, R184) -/

/-- The named trip is 0 and the rest of SPD's state is as it was (R18). -/
theorem resetTrips_spd (n : Nat) (s : State) :
    (resetTrips n s).spd = if n = 0 then { s.spd with tripA := 0 } else { s.spd with tripB := 0 } := by
  unfold resetTrips
  split <;> rfl

/-- The take of a RESET TRIP order (R184). -/
theorem takeOrder_resetTrip {s : State} {k : Fin 8} {trip : Byte} (hcode : hostByte s (orderAddr k + 1) = 0x02)
    (harg : hostByte s (orderAddr k + 2) = trip) (htrip : trip.toNat ≤ 1) :
    takeOrder k s = answerOrder k resDone 0 (resetTrips trip.toNat s) := by
  have hcode' : (hostByte s (orderAddr k + 1)).toNat = 2 := by rw [hcode]; rfl
  unfold takeOrder
  dsimp only
  rw [hcode', Nat.add_zero, harg, takeResetTrip, if_pos htrip]
  rfl

theorem padTo_getD (k i : Nat) (bs : List Byte) (h : i < k) : (padTo k bs).getD i 0 = bs.getD i 0 := by
  induction k generalizing i bs with
  | zero => exact absurd h (Nat.not_lt_zero i)
  | succ k ih =>
    cases bs <;> cases i
    case cons.succ b bs i => exact ih i bs (by omega)
    case nil.succ i => exact ih i [] (by omega)
    all_goals rfl

/-- The bytes of a number that is 0, among others. -/
theorem getD_append_le_zero (before after : List Byte) {i : Nat} (hi : i < 4) :
    (before ++ (le 4 0 ++ after)).getD (before.length + i) 0 = 0 := by
  have hzeros : le 4 0 = List.replicate 4 0 := rfl
  rw [List.getD_append_right _ _ _ _ (Nat.le_add_right _ _), Nat.add_sub_cancel_left, hzeros,
    List.getD_append _ _ _ _ (by simpa using hi), List.getD_replicate _ hi]

/-- The mirror of a trip that is 0 (R23). -/
theorem exchangeByte_trip {s : State} {n i : Nat} (hn : n ≤ 1) (hi : i < 4)
    (hzero : (if n = 0 then s.spd.tripA else s.spd.tripB) = 0) : exchangeByte s (0xC34 + 4 * n + i) = 0 := by
  have hline : (0xC34 + 4 * n + i) / 16 = 0xC3 := by omega
  have hplace : (0xC34 + 4 * n + i) % 16 = 4 + 4 * n + i := by omega
  unfold exchangeByte exchangeLine
  rw [hline, hplace]
  have hfields : lineFields s 0xC3 = le 4 s.spd.odometer ++ le 4 s.spd.tripA ++ le 4 s.spd.tripB ++
    le 2 s.spd.remainder := rfl
  rw [hfields, padTo_getD _ _ _ (by omega)]
  rcases Nat.le_one_iff_eq_zero_or_eq_one.1 hn with rfl | rfl
  · rw [if_pos rfl] at hzero
    rw [hzero, List.append_assoc, List.append_assoc]
    exact getD_append_le_zero (le 4 s.spd.odometer) (le 4 s.spd.tripB ++ le 2 s.spd.remainder) hi
  · rw [if_neg Nat.one_ne_zero] at hzero
    rw [hzero, List.append_assoc]
    exact getD_append_le_zero (le 4 s.spd.odometer ++ le 4 s.spd.tripA) (le 2 s.spd.remainder) hi

/-- SPD after a RESET TRIP order and then a unit: the named trip is 1 (R18). -/
theorem trip_of_unit {s : State} {n : Nat} (h : s.nvs.pulse ≤ s.spd.remainder + 100)
    (hzero : (if n = 0 then s.spd.tripA else s.spd.tripB) = 0) :
    (if n = 0 then (acceptEdge s).spd.tripA else (acceptEdge s).spd.tripB) = 1 := by
  obtain ⟨-, -, hA, hB⟩ := acceptEdge_of_unit h
  rw [hA, hB, ← apply_ite tripNext, hzero]
  rfl

/-- The state that a RESET TRIP order leaves when it is written into slot k and taken. -/
def afterResetTrip (k : Fin 8) (stamp trip : Byte) (s : State) : State :=
  closePort (answerOrder k resDone 0 (resetTrips trip.toNat (landed s (orderAddr k) [stamp, 0x02, trip])))

/-- The bytes of the order stand in its slot. -/
theorem landed_resetTrip {s : State} (k : Fin 8) (stamp trip : Byte) (hwf : Memory.wf 0 s.host = true) {i : Nat}
    (hi : i < 3) :
    hostByte (landed s (orderAddr k) [stamp, 0x02, trip]) (orderAddr k + i) = [stamp, 0x02, trip].getD i 0 := by
  have hk := orderAddr_bounds k
  rw [landed_hostByte _ hwf (by simp; omega), if_pos (by simp; omega), Nat.add_sub_cancel_left]

theorem exec_resetTrip {s : State} {t : Nat} {k : Fin 8} {stamp trip : Byte} (order : OrderTaken t k stamp s)
    (htrip : trip.toNat ≤ 1) : exec (.resetTrip t k stamp trip) s = .next (afterResetTrip k stamp trip (tick t s)) := by
  obtain ⟨awake, link, slot, hwf, -⟩ := order
  have hbytes := fun i hi => landed_resetTrip (s := tick t s) k stamp trip hwf (i := i) hi
  have htake := takeOrder_resetTrip (trip := trip) (hbytes 1 (by omega)) (hbytes 2 (by omega)) htrip
  calc exec (.resetTrip t k stamp trip) s = live t (orderWrite k stamp 0x02 [trip]) s := rfl
    _ = .next (orderWrite k stamp 0x02 [trip] (tick t s)) := live_awake awake t _
    _ = .next (afterResetTrip k stamp trip (tick t s)) := by
      rw [orderWrite_of_taken link slot hwf (by simp), htake, afterResetTrip]

theorem afterResetTrip_spd (k : Fin 8) (stamp trip : Byte) (s : State) :
    (afterResetTrip k stamp trip s).spd =
      if trip.toNat = 0 then { s.spd with tripA := 0 } else { s.spd with tripB := 0 } := by
  simp [afterResetTrip, closePort, resetTrips_spd]

theorem afterResetTrip_orderSlot {s : State} (k : Fin 8) (stamp trip : Byte) (hwf : Memory.wf 0 s.host = true)
    (j : Fin 8) : (afterResetTrip k stamp trip s).orderSlot j =
      if j = k then { progress := .idle, echo := stamp, result := resDone, detail := 0 } else s.orderSlot j := by
  have hstamp : orderStamp (resetTrips trip.toNat (landed s (orderAddr k) [stamp, 0x02, trip])) k = stamp := by
    rw [orderStamp, hostByte_congr (s := landed s (orderAddr k) [stamp, 0x02, trip]) (by simp)]
    exact landed_resetTrip k stamp trip hwf (i := 0) (by omega)
  have hkept : (resetTrips trip.toNat (landed s (orderAddr k) [stamp, 0x02, trip])).orderSlot j = s.orderSlot j := by
    simp [State.orderSlot]
  rw [← hkept]
  nth_rewrite 2 [← hstamp]
  exact State.setOrderSlot_orderSlot _ k j _

theorem afterResetTrip_landed {s : State} (k : Fin 8) (stamp trip : Byte) (hwf : Memory.wf 0 s.host = true) :
    Landed (afterResetTrip k stamp trip s) s (orderAddr k) [stamp, 0x02, trip] := by
  have hk := orderAddr_bounds k
  exact landed_of_host hwf (by simp; omega) (by simp [afterResetTrip, closePort]) (by simp [afterResetTrip, closePort])

theorem afterResetTrip_onlyChanges (k : Fin 8) (stamp trip : Byte) (s : State) :
    OnlyChanges [.port, .discard, .host, .orders, .spd] s (afterResetTrip k stamp trip s) := by
  refine ⟨by simp [afterResetTrip, closePort], by simp [afterResetTrip, closePort], fun p hp => ?_⟩
  cases p <;> simp_all [Part.same, afterResetTrip, closePort]

/-- Settles O15: the WRITE of the order is taken, its take resets the named trip, and a unit just after counts from 0. -/
theorem resetTripOrder : Obligations.ResetTripOrder := by
  unfold Obligations.ResetTripOrder
  intro s t k stamp trip order htrip
  have hwf : Memory.wf 0 (tick t s).host = true := by
    obtain ⟨-, -, -, hwf, -⟩ := order
    exact hwf
  have hspd := afterResetTrip_spd k stamp trip (tick t s)
  have hzero : (if trip.toNat = 0 then (afterResetTrip k stamp trip (tick t s)).spd.tripA
      else (afterResetTrip k stamp trip (tick t s)).spd.tripB) = 0 := by
    rw [hspd]
    split <;> rfl
  have hslots := afterResetTrip_orderSlot (s := tick t s) k stamp trip hwf
  refine ⟨afterResetTrip k stamp trip (tick t s), exec_resetTrip order htrip, afterResetTrip_landed k stamp trip hwf,
    afterResetTrip_onlyChanges k stamp trip (tick t s), fun j hj => ?_, ?_, hspd,
    fun i hi => exchangeByte_trip htrip hi hzero, fun e rising ok hunit => ?_⟩
  · rw [hslots, if_neg hj]
    rfl
  · exact (hslots k).trans (if_pos rfl)
  · exact ⟨acceptEdge (tick e _), exec_speedEdge_of_accepted ok, trip_of_unit (s := tick e _) hunit hzero⟩

end Sys2Proof.Machine
end

section
/-! SUPPORT. The gauge channels one by one: what an event leaves in a channel depends on what it found in that channel, in the
host's settings and in the power state, and no channel's work changes another channel (R33, R35). -/

namespace Sys2Proof.Machine

/-! ### A channel at a time -/

/-- Two states are the same to an event's work on channel c: in the channel, the settings, the power state and the time. -/
structure SameToChannel (c : Fin 8) (u s : State) : Prop where
  channel : u.channel c = s.channel c
  psc : u.psc = s.psc
  host : u.host = s.host
  now : u.now = s.now

/-- An event's work on a channel changes no other channel, no setting, and neither the power state nor the time. -/
structure OneByOne (f : Fin 8 → State → State) : Prop where
  others : ∀ {c d : Fin 8} (s : State), d ≠ c → (f c s).channel d = s.channel d
  psc : ∀ (c : Fin 8) (s : State), (f c s).psc = s.psc
  host : ∀ (c : Fin 8) (s : State), (f c s).host = s.host
  now : ∀ (c : Fin 8) (s : State), (f c s).now = s.now

theorem OneByOne.sameToChannel {f : Fin 8 → State → State} (h : OneByOne f) {c d : Fin 8} (hd : d ≠ c) (s : State) :
    SameToChannel d (f c s) s := ⟨h.others s hd, h.psc c s, h.host c s, h.now c s⟩

theorem SameToChannel.refl (c : Fin 8) (s : State) : SameToChannel c s s := ⟨rfl, rfl, rfl, rfl⟩

theorem SameToChannel.trans {c : Fin 8} {u v s : State} (h : SameToChannel c u v) (g : SameToChannel c v s) :
    SameToChannel c u s :=
  ⟨h.channel.trans g.channel, h.psc.trans g.psc, h.host.trans g.host, h.now.trans g.now⟩

/-- The work on the other channels is nothing to channel d. -/
theorem OneByOne.foldl_others {f : Fin 8 → State → State} (h : OneByOne f) {d : Fin 8} (l : List (Fin 8)) (hd : d ∉ l)
    (s : State) : SameToChannel d (l.foldl (fun s c => f c s) s) s := by
  induction l generalizing s with
  | nil => exact .refl d s
  | cons c l ih =>
    obtain ⟨hdc, hdl⟩ := List.ne_and_not_mem_of_not_mem_cons hd
    exact (ih hdl (f c s)).trans (h.sameToChannel hdc s)

/-- After an event, channel d is as the event's work on it alone left it, from a state that is the same to it. -/
theorem OneByOne.forChannels_channel {f : Fin 8 → State → State} (h : OneByOne f) (d : Fin 8) (s : State) :
    ∃ v, SameToChannel d v s ∧ (forChannels f s).channel d = (f d v).channel d := by
  obtain ⟨before, after, split⟩ := List.append_of_mem (List.mem_finRange d)
  have hnodup : (before ++ d :: after).Nodup := split ▸ List.nodup_finRange 8
  rw [List.nodup_middle, List.nodup_cons, List.mem_append, not_or] at hnodup
  obtain ⟨⟨hbefore, hafter⟩, -⟩ := hnodup
  refine ⟨before.foldl (fun s c => f c s) s, h.foldl_others before hbefore s, ?_⟩
  rw [forChannels, split, List.foldl_append, List.foldl_cons]
  exact (h.foldl_others after hafter _).channel

/-! ### What the operations leave in the channels -/

@[simp] theorem evalGaugeFault_channel (s : State) (d : Fin 8) : (evalGaugeFault s).channel d = s.channel d := by
  unfold evalGaugeFault
  split
  · exact sendAssertion_channel 42 none _ _ _ d
  · rfl

@[simp] theorem evalGaugeStale_channel (s : State) (d : Fin 8) : (evalGaugeStale s).channel d = s.channel d := by
  unfold evalGaugeStale
  split
  · exact sendAssertion_channel 43 none _ _ _ d
  · rfl

@[simp] theorem clearCause_channel (n : Fin 53) (s : State) (d : Fin 8) : (clearCause n s).channel d = s.channel d :=
  channel_congr (by simp) d

@[simp] theorem postGauge_channel (c : Fin 8) (st : ChannelState) (p : Nat) (s : State) (d : Fin 8) :
    (postGauge c st p s).channel d = s.channel d := channel_congr (by simp) d

@[simp] theorem noteBad_channel_same (c : Fin 8) (b : Bool) (s : State) :
    (noteBad c b s).channel c = { s.channel c with defaulted := (s.channel c).defaulted || b } := by
  simp [noteBad]

section
variable {c d : Fin 8} (hd : d ≠ c)
include hd

theorem State.setChannel_channel_of_ne (s : State) (x : Channel) : (s.setChannel c x).channel d = s.channel d := by
  simp [State.setChannel_channel, hd]

theorem noteBad_channel_of_ne (b : Bool) (s : State) : (noteBad c b s).channel d = s.channel d :=
  State.setChannel_channel_of_ne hd s _

theorem applySourceChange_channel_of_ne (s : State) : (applySourceChange c s).channel d = s.channel d := by
  unfold applySourceChange
  dsimp only
  split
  next => rfl
  next =>
    split
    next => split <;> simp [State.setChannel_channel_of_ne hd]
    next => simp [State.setChannel_channel_of_ne hd]
    next => simp [State.setChannel_channel_of_ne hd, noteBad_channel_of_ne hd]

theorem tableCheck_channel_of_ne (s : State) : (tableCheck c s).channel d = s.channel d := by
  unfold tableCheck
  dsimp only
  split
  next => rfl
  next => split <;> simp [State.setChannel_channel_of_ne hd]

theorem filterChannel_channel_of_ne (s : State) : (filterChannel c s).channel d = s.channel d := by
  simp [filterChannel, State.setChannel_channel_of_ne hd, tableCheck_channel_of_ne hd, applySourceChange_channel_of_ne hd]

theorem enterHoming_channel_of_ne (s : State) : (enterHoming c s).channel d = s.channel d := by
  simp [enterHoming, State.setChannel_channel_of_ne hd, noteBad_channel_of_ne hd]

theorem endHoming_channel_of_ne (s : State) : (endHoming c s).channel d = s.channel d := by
  simp [endHoming, State.setChannel_channel_of_ne hd]

theorem stall_channel_of_ne (s : State) : (stall c s).channel d = s.channel d := by
  unfold stall
  dsimp only
  repeat' split
  all_goals simp [State.setChannel_channel_of_ne hd, enterHoming_channel_of_ne hd]

theorem stepHoming_channel_of_ne (silent : Bool) (s : State) : (stepHoming silent c s).channel d = s.channel d := by
  unfold stepHoming
  dsimp only
  split <;> simp [State.setChannel_channel_of_ne hd, noteBad_channel_of_ne hd, endHoming_channel_of_ne hd]

theorem arrive_channel_of_ne (target : Nat) (s : State) : (arrive c target s).channel d = s.channel d := by
  unfold arrive
  dsimp only
  repeat' split
  all_goals simp [State.setChannel_channel_of_ne hd]

theorem stepMoving_channel_of_ne (silent : Bool) (s : State) : (stepMoving silent c s).channel d = s.channel d := by
  unfold stepMoving
  dsimp only
  repeat' split
  all_goals simp [State.setChannel_channel_of_ne hd, noteBad_channel_of_ne hd, stall_channel_of_ne hd, arrive_channel_of_ne hd]

theorem stepChannel_channel_of_ne (silent : Bool) (s : State) : (stepChannel silent c s).channel d = s.channel d := by
  unfold stepChannel
  dsimp only
  repeat' split
  all_goals simp [State.setChannel_channel_of_ne hd, stepHoming_channel_of_ne hd, stepMoving_channel_of_ne hd]

end

theorem filterChannel_oneByOne : OneByOne filterChannel :=
  ⟨fun s hd => filterChannel_channel_of_ne hd s, fun _ _ => by simp, fun _ _ => by simp, fun _ _ => by simp⟩

theorem stepChannel_oneByOne (silent : Fin 8 → Bool) : OneByOne fun c => stepChannel (silent c) c :=
  ⟨fun s hd => stepChannel_channel_of_ne hd _ s, fun _ _ => by simp, fun _ _ => by simp, fun _ _ => by simp⟩

/-! ### Settings that two states share -/

theorem dampingShift_congr {u s : State} (h : u.host = s.host) (c : Fin 8) : dampingShift u c = dampingShift s c := by
  rw [dampingShift, dampingShift, hostByte_congr h]

theorem stallSense_congr {u s : State} (h : u.host = s.host) (c : Fin 8) : stallSense u c = stallSense s c := by
  rw [stallSense, stallSense, hostByte_congr h]

theorem vMax_congr {u s : State} (h : u.host = s.host) (c : Fin 8) : vMax u c = vMax s c := by
  rw [vMax, vMax, hostByte_congr h]

end Sys2Proof.Machine
end

section
/-! PROOF. Damping (R33, R34): the statement FilterEventDampsTheTarget. -/

namespace Sys2Proof.Machine

/-! ### The arithmetic of R34 -/

/-- R34 over the integers: the fraction of the gap, rounded toward zero, or one microstep, within 0 to a_max. -/
theorem damp_eq_tdiv (a t k aMax : Nat) {moved : Int} (h : moved = t + Int.tdiv ((a : Int) - t) (2 ^ k)) :
    (damp a t k aMax : Int) = max 0 (min (aMax : Int)
      (if moved = t then (if (t : Int) < a then (t : Int) + 1 else if (a : Int) < t then (t : Int) - 1 else t) else moved)) := by
  have hpow : (2 ^ k : Int) = ((2 ^ k : Nat) : Int) := by push_cast; rfl
  rcases Nat.lt_trichotomy t a with hlt | rfl | hlt
  · have hgap : (a : Int) - t = ((a - t : Nat) : Int) := by omega
    rw [hgap, hpow, ← Int.ofNat_tdiv] at h
    rw [damp, if_pos hlt]
    generalize (a - t) / 2 ^ k = q at h ⊢
    split_ifs <;> omega
  · simp only [Int.sub_self, Int.zero_tdiv, Int.add_zero] at h
    simp [damp, h, min_comm]
  · have hgap : (a : Int) - t = -((t - a : Nat) : Int) := by omega
    have hle : (t - a) / 2 ^ k ≤ t - a := Nat.div_le_self _ _
    rw [hgap, hpow, Int.neg_tdiv, ← Int.ofNat_tdiv] at h
    rw [damp, if_neg (by omega), if_pos hlt]
    generalize (t - a) / 2 ^ k = q at h hle ⊢
    split_ifs <;> omega

/-- With the shift 0 the target is the demand angle after one event. -/
theorem damp_zero {a aMax : Nat} (t : Nat) (ha : a ≤ aMax) : damp a t 0 aMax = a := by
  unfold damp
  simp only [Nat.pow_zero, Nat.div_one]
  split_ifs <;> omega

/-- One event takes at least one microstep off the gap, above or below the demand angle, and opens none on the other side. -/
theorem damp_gap {a t aMax : Nat} (k : Nat) (ha : a ≤ aMax) (ht : t ≤ aMax) :
    a - damp a t k aMax ≤ a - t - 1 ∧ damp a t k aMax - a ≤ t - a - 1 := by
  have habove : (a - t) / 2 ^ k ≤ a - t := Nat.div_le_self _ _
  have hbelow : (t - a) / 2 ^ k ≤ t - a := Nat.div_le_self _ _
  unfold damp
  dsimp only
  split_ifs <;> omega

/-! ### The target that a filter event leaves (R33) -/

/-- The states in which the target is the demand angle (R33). -/
abbrev Channel.undamped (x : Channel) : Prop := x.state = .unhomed ∨ x.state = .fault

/-- Two records of a channel are the same to its damping. -/
structure SameToDamping (x y : Channel) : Prop where
  target : x.target = y.target
  aMax : x.aMax = y.aMax
  undamped : x.undamped ↔ y.undamped

theorem SameToDamping.refl (x : Channel) : SameToDamping x x := ⟨rfl, rfl, .rfl⟩

theorem SameToDamping.trans {x y z : Channel} (h : SameToDamping x y) (g : SameToDamping y z) : SameToDamping x z :=
  ⟨h.target.trans g.target, h.aMax.trans g.aMax, h.undamped.trans g.undamped⟩

/-- Leaving STALE for TRACKING is nothing to damping. -/
theorem SameToDamping.leaveStale (x : Channel) :
    SameToDamping (if x.state = .stale then enterState x .tracking else x) x := by
  split
  next hst => exact ⟨rfl, rfl, by simp [Channel.undamped, enterState, hst]⟩
  next => exact .refl x

/-- A source change moves a channel out of STALE at most, to TRACKING (R27). -/
theorem applySourceChange_sameToDamping (c : Fin 8) (s : State) :
    SameToDamping ((applySourceChange c s).channel c) (s.channel c) := by
  obtain ⟨htarget, hmax, hundamped⟩ := SameToDamping.leaveStale { s.channel c with source := gaugeSource s c }
  unfold applySourceChange
  dsimp only
  split
  next => exact .refl _
  next =>
    split
    next =>
      split <;> simp only [clearCause_channel, evalGaugeStale_channel, State.setChannel_channel_same] <;>
        exact ⟨htarget, hmax, hundamped⟩
    next =>
      simp only [evalGaugeStale_channel, State.setChannel_channel_same]
      exact ⟨htarget, hmax, hundamped⟩
    next =>
      rw [noteBad_channel_same, State.setChannel_channel_same]
      split <;> exact ⟨rfl, rfl, .rfl⟩

theorem tableCheck_sameToDamping (c : Fin 8) (s : State) :
    SameToDamping ((tableCheck c s).channel c) (s.channel c) := by
  unfold tableCheck
  dsimp only
  split
  next => exact .refl _
  next => split <;> exact ⟨by simp, by simp, by simp [Channel.undamped]⟩

/-- The state of which a filter event computes the demand angle of channel c: the settings read and the table checked. -/
def filterReady (c : Fin 8) (s : State) : State :=
  tableCheck c ((applySourceChange c s).setChannel c
    { (applySourceChange c s).channel c with defaulted := anyBad (applySourceChange c s) c })

theorem filterReady_sameToDamping (c : Fin 8) (s : State) :
    SameToDamping ((filterReady c s).channel c) (s.channel c) := by
  refine (tableCheck_sameToDamping c _).trans (.trans ?_ (applySourceChange_sameToDamping c s))
  rw [State.setChannel_channel_same]
  exact ⟨rfl, rfl, .rfl⟩

theorem filterChannel_channel (c : Fin 8) (s : State) :
    (filterChannel c s).channel c = { (filterReady c s).channel c with
      demand := demandAngle (filterReady c s) c
      target := if ((filterReady c s).channel c).state = .unhomed ∨ ((filterReady c s).channel c).state = .fault then
          demandAngle (filterReady c s) c
        else damp (demandAngle (filterReady c s) c) ((filterReady c s).channel c).target
          (dampingShift (filterReady c s) c) ((filterReady c s).channel c).aMax
      restAngle := if ((filterReady c s).channel c).calibration || ((filterReady c s).channel c).aMax == 0 then 0
        else pointA (filterReady c s) c 0 } := by
  unfold filterChannel
  exact State.setChannel_channel_same (filterReady c s) c _

/-- What a filter event leaves in a channel, as far as damping goes, for what it found there and the demand angle it set. -/
structure Damped (y x : Channel) (k : Nat) : Prop where
  aMax : y.aMax = x.aMax
  undamped : y.undamped ↔ x.undamped
  target_of_undamped : x.undamped → y.target = y.demand
  target_of_damped : ¬x.undamped → y.target = damp y.demand x.target k x.aMax

theorem filterChannel_damped (c : Fin 8) (s : State) :
    Damped ((filterChannel c s).channel c) (s.channel c) (dampingShift s c) := by
  obtain ⟨htarget, hmax, hundamped⟩ := filterReady_sameToDamping c s
  have hshift : dampingShift (filterReady c s) c = dampingShift s c := dampingShift_congr (by simp [filterReady]) c
  rw [filterChannel_channel]
  refine ⟨hmax, hundamped, fun h => ?_, fun h => ?_⟩
  · dsimp only
    rw [if_pos (hundamped.2 h)]
  · dsimp only
    rw [if_neg fun h' => h (hundamped.1 h'), htarget, hmax, hshift]

/-! ### The filter event -/

/-- The state that a filter event leaves. -/
def afterFilter (t : Nat) (s : State) : State := forChannels filterChannel (tick t s)

theorem exec_filterEvent {s : State} (awake : Awake s) (loaded : inLoading s = false) (t : Nat) :
    exec (.filterEvent t) s = .next (afterFilter t s) := by
  have hloaded : inLoading (tick t s) = false := loaded
  calc exec (.filterEvent t) s
      = live t (fun s => onlyIf (!inLoading s) (forChannels filterChannel) s) s := rfl
    _ = .next (afterFilter t s) := by rw [live_awake awake, onlyIf, hloaded]; rfl

theorem afterFilter_onlyChanges (t : Nat) (s : State) :
    OnlyChanges [.gau, .ttu, .journal] (tick t s) (afterFilter t s) := by
  refine ⟨by simp [afterFilter], by simp [afterFilter], fun p hp => ?_⟩
  cases p <;> simp_all [Part.same, afterFilter]

theorem afterFilter_damped (t : Nat) (c : Fin 8) (s : State) :
    Damped ((afterFilter t s).channel c) (s.channel c) (dampingShift s c) := by
  obtain ⟨v, same, hv⟩ := filterChannel_oneByOne.forChannels_channel c (tick t s)
  have h := filterChannel_damped c v
  rw [same.channel, dampingShift_congr same.host] at h
  rw [afterFilter, hv]
  exact h

/-! ### Runs of filter events -/

/-- What a run of n filter events keeps, and what it takes off the gap between the target and the demand angle a. -/
structure Approaches (c : Fin 8) (a n : Nat) (s u : State) : Prop where
  psc : u.psc = s.psc
  damped : ¬(u.channel c).undamped
  demand_le : a ≤ (u.channel c).aMax
  target_le : (u.channel c).target ≤ (u.channel c).aMax
  below : a - (u.channel c).target ≤ a - (s.channel c).target - n
  above : (u.channel c).target - a ≤ (s.channel c).target - a - n

theorem Approaches.filterEvent {c : Fin 8} {a n : Nat} {s v : State} (h : Approaches c a n s v) (t : Nat)
    (hdemand : ((afterFilter t v).channel c).demand = a) : Approaches c a (n + 1) s (afterFilter t v) := by
  obtain ⟨hpsc, hdamped, hdemand_le, htarget_le, hbelow, habove⟩ := h
  obtain ⟨hmax, hundamped, -, htarget⟩ := afterFilter_damped t c v
  have htarget' := htarget hdamped
  rw [hdemand] at htarget'
  obtain ⟨hgapBelow, hgapAbove⟩ := damp_gap (dampingShift v c) hdemand_le htarget_le
  rw [← htarget'] at hgapBelow hgapAbove
  exact ⟨by simp [afterFilter, hpsc], fun h => hdamped (hundamped.1 h), by omega, by omega, by omega, by omega⟩

theorem FilterRun.approaches {c : Fin 8} {a n : Nat} {s u : State} (run : FilterRun c a n s u) (awake : Awake s)
    (loaded : inLoading s = false) (h : Approaches c a 0 s s) : Approaches c a n s u := by
  induction run with
  | none s => exact h
  | @more _ _ v _ t run e d ih =>
    have hv := ih awake loaded h
    have awake' : Awake v := by rw [Awake, hv.psc]; exact awake
    have loaded' : inLoading v = false := by rw [inLoading, hv.psc]; exact loaded
    obtain rfl := Host.Outcome.next.inj ((exec_filterEvent awake' loaded' t).symm.trans e)
    exact hv.filterEvent t d

/-- Settles O30: one event by the arithmetic of R34, and a run of them by the gap, which each event closes by one or more. -/
theorem filterEventDampsTheTarget : Obligations.FilterEventDampsTheTarget := by
  unfold Obligations.FilterEventDampsTheTarget
  constructor
  · intro s t c awake loaded
    obtain ⟨hmax, -, hundamped, hdamped⟩ := afterFilter_damped t c s
    refine ⟨afterFilter t s, exec_filterEvent awake loaded t, afterFilter_onlyChanges t s, hundamped, ?_, ?_⟩
    · rintro hhomed hsound a rfl tgt rfl moved hmoved
      rw [hdamped (not_or.2 ⟨hhomed, hsound⟩)]
      exact damp_eq_tdiv _ _ _ _ hmoved
    · intro hhomed hsound hdemand htarget
      obtain ⟨hbelow, habove⟩ := damp_gap (dampingShift s c) hdemand htarget
      rw [hdamped (not_or.2 ⟨hhomed, hsound⟩)]
      refine ⟨fun hshift => ?_, fun h => by omega, fun h => by omega⟩
      rw [hshift]
      exact damp_zero _ hdemand
  · intro s u c a n run awake loaded hhomed hsound hdemand htarget hbelow habove _
    obtain ⟨-, -, -, -, hgapBelow, hgapAbove⟩ :=
      run.approaches awake loaded ⟨rfl, not_or.2 ⟨hhomed, hsound⟩, hdemand, htarget, by omega, by omega⟩
    omega

end Sys2Proof.Machine
end

section
/-! PROOF. The step event under R35 to R37, R41 and R49: the statement StepEventSlowsTurnsAndFreezes. -/

namespace Sys2Proof.Machine

/-! ### Moves (R36, R37) -/

theorem toward_of_lt {pos target : Nat} (h : pos < target) : toward pos target = .up := if_pos h

theorem toward_of_ge {pos target : Nat} (h : target ≤ pos) : toward pos target = .down := if_neg (Nat.not_lt.2 h)

theorem Direction.eq_down {d : Direction} (h : d ≠ .up) : d = .down := by cases d <;> simp_all

theorem Direction.eq_up {d : Direction} (h : d ≠ .down) : d = .up := by cases d <;> simp_all

/-- A position p that a needle reaches from pos has not passed the target, and lies within 0 to a_max. -/
structure HoldsBack (pos target aMax p : Nat) : Prop where
  below : pos ≤ target → p ≤ target
  above : target ≤ pos → target ≤ p
  within : p ≤ aMax

theorem HoldsBack.refl {pos aMax : Nat} (target : Nat) (h : pos ≤ aMax) : HoldsBack pos target aMax pos := ⟨id, id, h⟩

/-- R36 moves the needle at most to its target. -/
theorem moveToward_holdsBack {pos target aMax : Nat} (vel : Nat) (dir : Direction) (lim : Nat) (hpos : pos ≤ aMax)
    (htarget : target ≤ aMax) : HoldsBack pos target aMax (moveToward pos vel dir target lim).pos := by
  unfold moveToward
  split
  next => exact .refl target hpos
  next =>
    dsimp only
    split_ifs <;> constructor <;> omega

/-- R37 moves the needle away from its target, and clamps it. -/
theorem moveAway_holdsBack {pos target aMax : Nat} (vel : Nat) {dir : Direction} (hne : pos ≠ target)
    (hdir : dir ≠ toward pos target) (hpos : pos ≤ aMax) : HoldsBack pos target aMax (moveAway pos vel dir target aMax).pos := by
  rcases Nat.lt_or_ge pos target with h | h
  · rw [toward_of_lt h] at hdir
    rw [Direction.eq_down hdir]
    constructor <;> dsimp only [moveAway] <;> omega
  · rw [toward_of_ge h] at hdir
    rw [Direction.eq_up hdir]
    constructor <;> dsimp only [moveAway] <;> omega

theorem moveNeedle_holdsBack {x : Channel} {target : Nat} (lim : Nat) (hpos : x.pos ≤ x.aMax) (htarget : target ≤ x.aMax) :
    HoldsBack x.pos target x.aMax (moveNeedle x target lim).pos := by
  unfold moveNeedle
  split
  next => exact moveToward_holdsBack x.vel x.dir lim hpos htarget
  next h =>
    push Not at h
    obtain ⟨-, hne, hdir⟩ := h
    exact moveAway_holdsBack x.vel hne hdir hpos

/-- A needle that moves and points away from its target moves by R37. -/
theorem moveNeedle_of_away {x : Channel} {target : Nat} (lim : Nat) (hvel : 0 < x.vel)
    (h : (x.dir = .down ∧ x.pos < target) ∨ (x.dir = .up ∧ target < x.pos)) :
    moveNeedle x target lim = moveAway x.pos x.vel x.dir target x.aMax := by
  have hdir : x.dir ≠ toward x.pos target := by
    rcases h with ⟨hdown, hlt⟩ | ⟨hup, hlt⟩
    · rw [hdown, toward_of_lt hlt]; decide
    · rw [hup, toward_of_ge hlt.le]; decide
  refine if_neg ?_
  rintro (hstill | hthere | htoward)
  · omega
  · omega
  · exact hdir htoward

/-- R37 downward: the needle slows by 1, stops at 0, and turns up when it has stopped. -/
theorem moveAway_down {pos vel target aMax : Nat} (h : pos < target) :
    moveAway pos vel .down target aMax =
      let w := if pos < vel - 1 then 0 else vel - 1
      { pos := pos - (vel - 1), vel := w, dir := if w = 0 then .up else .down, chosen := w } := by
  have hturn : toward (pos - (vel - 1)) target = .up := toward_of_lt (by omega)
  simp [moveAway, hturn]

/-- R37 upward: the needle slows by 1, stops at a_max, and turns down when it has stopped. -/
theorem moveAway_up {pos vel target aMax : Nat} (h : target < pos) (hpos : pos ≤ aMax) :
    moveAway pos vel .up target aMax =
      let w := if aMax < pos + (vel - 1) then 0 else vel - 1
      { pos := min (pos + (vel - 1)) aMax, vel := w, dir := if w = 0 then .down else .up, chosen := w } := by
  have hturn : toward (min (pos + (vel - 1)) aMax) target = .down := toward_of_ge (by omega)
  simp [moveAway, hturn]

/-! ### The step event of a channel -/

/-- The states in which a step event has no effect (R35). -/
abbrev Channel.resting (x : Channel) : Prop := x.state = .unhomed ∨ x.state = .parked ∨ x.state = .fault

/-- A channel after a step event under LOW (R49). -/
def Channel.frozen (x : Channel) : Channel :=
  if x.resting then x else { x with vel := 0, missing := 0 }

/-- A channel with its needle as a move leaves it. -/
def Channel.movedBy (x : Channel) (m : Move) : Channel := { x with pos := m.pos, vel := m.vel, dir := m.dir }

/-- Two records of a channel have the needle in the same place and motion, under the same limit. -/
structure SameNeedle (y x : Channel) : Prop where
  pos : y.pos = x.pos
  vel : y.vel = x.vel
  dir : y.dir = x.dir
  aMax : y.aMax = x.aMax

theorem SameNeedle.trans {x y z : Channel} (h : SameNeedle x y) (g : SameNeedle y z) : SameNeedle x z :=
  ⟨h.pos.trans g.pos, h.vel.trans g.vel, h.dir.trans g.dir, h.aMax.trans g.aMax⟩

theorem stepChannel_of_resting {s : State} {c : Fin 8} (h : (s.channel c).resting) (silent : Bool) :
    stepChannel silent c s = s := by
  unfold stepChannel
  dsimp only
  rcases h with h | h | h <;> rw [h]

theorem stepChannel_of_low {s : State} {c : Fin 8} (low : s.psc.low = true) (h : ¬(s.channel c).resting) (silent : Bool) :
    stepChannel silent c s = s.setChannel c { s.channel c with vel := 0, missing := 0 } := by
  unfold stepChannel
  dsimp only
  split <;> simp_all [Channel.resting]

theorem stepChannel_of_moving {s : State} {c : Fin 8} (low : s.psc.low = false) (h : ¬(s.channel c).resting)
    (moving : (s.channel c).state ≠ .homing) (silent : Bool) : stepChannel silent c s = stepMoving silent c s := by
  unfold stepChannel
  dsimp only
  split <;> simp_all [Channel.resting]

/-- An arrival changes a channel's state and no needle (R39, R40). -/
theorem arrive_sameNeedle (c : Fin 8) (target : Nat) (s : State) :
    SameNeedle ((arrive c target s).channel c) (s.channel c) := by
  unfold arrive
  dsimp only
  repeat' split
  all_goals constructor <;> simp [enterState]

/-- A coil that stall sense does not sample, or that is not silent, gives no stall indication (R41). -/
theorem sampleCoil_of_not_silent {sense silent : Bool} (h : sense = false ∨ silent = false) (chosen old new run : Nat) :
    (sampleCoil sense silent chosen old new run).2 = false := by
  unfold sampleCoil
  rcases h with rfl | rfl
  · rfl
  · split <;> rfl

/-- Without a stall indication the needle is as its move leaves it (R36, R37). -/
theorem stepMoving_sameNeedle {s : State} {c : Fin 8} {silent : Bool} (h : stallSense s c = false ∨ silent = false) :
    SameNeedle ((stepMoving silent c s).channel c)
      ((s.channel c).movedBy (moveNeedle (s.channel c) (motionTarget s c) (vMax s c))) := by
  unfold stepMoving
  dsimp only
  rw [sampleCoil_of_not_silent h, if_neg Bool.false_ne_true]
  refine (arrive_sameNeedle c _ _).trans ?_
  rw [noteBad_channel_same, State.setChannel_channel_same]
  exact ⟨rfl, rfl, rfl, rfl⟩

/-- No step event outside HOMING carries a needle past its motion target or out of 0 to a_max (R36, R37). -/
theorem stepChannel_holdsBack {s : State} {c : Fin 8} {silent : Bool} (sound : stallSense s c = false ∨ silent = false)
    (moving : (s.channel c).state ≠ .homing) :
    ((stepChannel silent c s).channel c).aMax = (s.channel c).aMax ∧
      ((s.channel c).pos ≤ (s.channel c).aMax → motionTarget s c ≤ (s.channel c).aMax →
        HoldsBack (s.channel c).pos (motionTarget s c) (s.channel c).aMax ((stepChannel silent c s).channel c).pos) := by
  by_cases resting : (s.channel c).resting
  · rw [stepChannel_of_resting resting]
    exact ⟨rfl, fun hpos _ => .refl _ hpos⟩
  cases low : s.psc.low
  case true =>
    rw [stepChannel_of_low low resting, State.setChannel_channel_same]
    exact ⟨rfl, fun hpos _ => .refl _ hpos⟩
  case false =>
    obtain ⟨hpos', -, -, hmax⟩ := stepMoving_sameNeedle sound
    rw [stepChannel_of_moving low resting moving, hpos']
    exact ⟨hmax, fun hpos htarget => moveNeedle_holdsBack _ hpos htarget⟩

/-- Under LOW a step event changes the channel alone. -/
theorem stepChannel_frozen {s : State} (low : s.psc.low = true) (silent : Bool) (c : Fin 8) :
    (stepChannel silent c s).channel c = (s.channel c).frozen ∧
      ∃ chs, stepChannel silent c s = s.setGau { s.gau with channels := chs } := by
  by_cases resting : (s.channel c).resting
  · rw [stepChannel_of_resting resting, Channel.frozen, if_pos resting]
    exact ⟨rfl, s.gau.channels, rfl⟩
  · rw [stepChannel_of_low low resting, Channel.frozen, if_neg resting, State.setChannel_channel_same]
    exact ⟨rfl, _, rfl⟩

/-! ### The step event -/

/-- The state that a step event leaves. -/
def afterStep (t : Nat) (silent : List (Fin 8)) (s : State) : State :=
  forChannels (fun c => stepChannel (decide (c ∈ silent)) c) (tick t s)

theorem exec_stepEvent {s : State} (awake : Awake s) (loaded : inLoading s = false) (t : Nat) (silent : List (Fin 8)) :
    exec (.stepEvent t silent) s = .next (afterStep t silent s) := by
  have hloaded : inLoading (tick t s) = false := loaded
  calc exec (.stepEvent t silent) s
      = live t (fun s => onlyIf (!inLoading s) (forChannels fun c => stepChannel (decide (c ∈ silent)) c) s) s := rfl
    _ = .next (afterStep t silent s) := by rw [live_awake awake, onlyIf, hloaded]; rfl

theorem afterStep_onlyChanges (t : Nat) (silent : List (Fin 8)) (s : State) :
    OnlyChanges [.gau, .ttu, .journal] (tick t s) (afterStep t silent s) := by
  refine ⟨by simp [afterStep], by simp [afterStep], fun p hp => ?_⟩
  cases p <;> simp_all [Part.same, afterStep]

/-- What a step event leaves in channel c is what its work on that channel leaves, in a state that is the same to it. -/
theorem afterStep_channel (t : Nat) (silent : List (Fin 8)) (s : State) (c : Fin 8) :
    ∃ v, SameToChannel c v (tick t s) ∧
      (afterStep t silent s).channel c = (stepChannel (decide (c ∈ silent)) c v).channel c :=
  (stepChannel_oneByOne fun c => decide (c ∈ silent)).forChannels_channel c (tick t s)

section
variable {s : State} {c : Fin 8} {silent : List (Fin 8)} (sound : stallSense s c = false ∨ c ∉ silent)
include sound

theorem SameToChannel.notSilent {v : State} {t : Nat} (same : SameToChannel c v (tick t s)) :
    stallSense v c = false ∨ decide (c ∈ silent) = false := by
  rw [stallSense_congr same.host]
  exact sound.imp id decide_eq_false

theorem afterStep_sameNeedle (t : Nat) (low : s.psc.low = false) (resting : ¬(s.channel c).resting)
    (moving : (s.channel c).state ≠ .homing) :
    SameNeedle ((afterStep t silent s).channel c)
      ((s.channel c).movedBy (moveNeedle (s.channel c) (motionTarget s c) (vMax s c))) := by
  obtain ⟨v, same, hv⟩ := afterStep_channel t silent s c
  have hneedle := stepMoving_sameNeedle (same.notSilent sound)
  have hchannel : v.channel c = s.channel c := same.channel
  have hvmax : vMax v c = vMax s c := vMax_congr same.host c
  rw [motionTarget, hchannel, hvmax] at hneedle
  rw [hv, stepChannel_of_moving (by rw [same.psc]; exact low) (by rw [hchannel]; exact resting)
    (by rw [hchannel]; exact moving)]
  exact hneedle

theorem afterStep_holdsBack (t : Nat) (moving : (s.channel c).state ≠ .homing) :
    ((afterStep t silent s).channel c).aMax = (s.channel c).aMax ∧
      ((s.channel c).pos ≤ (s.channel c).aMax → motionTarget s c ≤ (s.channel c).aMax →
        HoldsBack (s.channel c).pos (motionTarget s c) (s.channel c).aMax ((afterStep t silent s).channel c).pos) := by
  obtain ⟨v, same, hv⟩ := afterStep_channel t silent s c
  have hchannel : v.channel c = s.channel c := same.channel
  have hholds := stepChannel_holdsBack (same.notSilent sound) (by rw [hchannel]; exact moving)
  rw [motionTarget, hchannel] at hholds
  rw [hv]
  exact hholds

end

/-- Under LOW a step event changes the channel records and nothing else (R49). -/
theorem afterStep_of_low (t : Nat) (silent : List (Fin 8)) {s : State} (low : s.psc.low = true) :
    ∃ chs, afterStep t silent s = (tick t s).setGau { s.gau with channels := chs } := by
  unfold afterStep forChannels
  refine List.foldlRecOn (motive := fun u => ∃ chs, u = (tick t s).setGau { s.gau with channels := chs }) _ _
    ⟨s.gau.channels, rfl⟩ ?_
  rintro _ ⟨chs, rfl⟩ c -
  obtain ⟨-, chs', hstep⟩ := stepChannel_frozen (s := (tick t s).setGau { s.gau with channels := chs }) low
    (decide (c ∈ silent)) c
  exact ⟨chs', hstep⟩

theorem afterStep_channel_of_low (t : Nat) (silent : List (Fin 8)) {s : State} (low : s.psc.low = true) (c : Fin 8) :
    (afterStep t silent s).channel c = (s.channel c).frozen := by
  obtain ⟨v, same, hv⟩ := afterStep_channel t silent s c
  obtain ⟨hfrozen, -⟩ := stepChannel_frozen (s := v) (by rw [same.psc]; exact low) (decide (c ∈ silent)) c
  rw [hv, hfrozen, same.channel]
  rfl

/-- The coils follow the position, and carry no current in the states at rest (R26). -/
theorem coilAngle_eq (s : State) (c : Fin 8) :
    coilAngle s c = if (s.channel c).resting then none else some ((s.channel c).pos % 48) := by
  unfold coilAngle Channel.resting
  cases (s.channel c).state <;> simp [ChannelState.energised]

/-- Settles O33: R37 for one channel, no needle past its target under R36 and R37, and the step event under LOW. -/
theorem stepEventSlowsTurnsAndFreezes : Obligations.StepEventSlowsTurnsAndFreezes := by
  unfold Obligations.StepEventSlowsTurnsAndFreezes
  refine ⟨fun s t c silent awake loaded low sound state hvel away hpos htarget => ?_,
    fun s t c silent awake loaded sound moving => ?_, fun s t silent awake loaded low => ?_⟩
  · have resting : ¬(s.channel c).resting := by
      rcases state with h | h | h | h <;> simp [Channel.resting, h]
    have moving : (s.channel c).state ≠ .homing := by
      rcases state with h | h | h | h <;> simp [h]
    obtain ⟨hpos', hvel', hdir', -⟩ := afterStep_sameNeedle sound t low resting moving
    refine ⟨afterStep t silent s, exec_stepEvent awake loaded t silent, ?_⟩
    rw [hpos', hvel', hdir', Channel.movedBy, moveNeedle_of_away _ hvel away]
    rcases away with ⟨hdown, hlt⟩ | ⟨hup, hlt⟩
    · rw [hdown, moveAway_down hlt]
      by_cases hshort : (s.channel c).pos < (s.channel c).vel - 1
      · have hclamped : ¬(s.channel c).vel ≤ (s.channel c).pos + 1 := by omega
        simp [hshort, hclamped]
      · simp [hshort]
    · rw [hup, moveAway_up hlt hpos]
      by_cases hshort : (s.channel c).aMax < (s.channel c).pos + ((s.channel c).vel - 1)
      · simp [hshort]
      · simp [hshort]
  · obtain ⟨hmax, hholds⟩ := afterStep_holdsBack sound t moving
    refine ⟨afterStep t silent s, exec_stepEvent awake loaded t silent, afterStep_onlyChanges t silent s, hmax,
      coilAngle_eq _ c, fun hpos htarget => ?_⟩
    obtain ⟨hbelow, habove, hwithin⟩ := hholds hpos htarget
    exact ⟨hbelow, habove, hwithin⟩
  · obtain ⟨chs, hlow⟩ := afterStep_of_low t silent low
    refine ⟨afterStep t silent s, exec_stepEvent awake loaded t silent, ?_, by rw [hlow]; rfl, by rw [hlow]; rfl,
      afterStep_channel_of_low t silent low⟩
    rw [hlow]
    refine ⟨rfl, rfl, fun p hp => ?_⟩
    cases p <;> simp_all [Part.same]

end Sys2Proof.Machine
end
